-- ==== Sys2Proof/Word.lean ====
section
/-! DEFINITION. The word types of the block (spec 00_scope.md R14) and the one-bit majority. -/

namespace Sys2Proof

/-- A word: 32 bits, unsigned (R14). -/
abbrev Word := BitVec 32

/-- A byte of a unit or of a buffer (R15). -/
abbrev Byte := BitVec 8

/-- `maj(a, b, c)` on single bits (R14). -/
def maj (a b c : Bool) : Bool := (a && b) || (a && c) || (b && c)

end Sys2Proof
end

