-- ==== Sys2Proof/Syntax.lean ====
section
/-! DEFINITION. The twenty commands of spec 30_encoding.md R137 and their operands (R133 to R136). -/

namespace Sys2Proof

/-- The LFSR registers R[1] to R[4] (R31), as the SEL operand names them (R133). -/
inductive LfsrId where
  | r1 | r2 | r3 | r4
  deriving DecidableEq, Repr

/-- The coordinator's modes (R50, R135). -/
inductive Mode where
  | stream | ecb | pcbc | digest
  deriving DecidableEq, Repr

/-- The direction of a stream (R50): DIR = 0 is ENC, DIR = 1 is DEC. -/
inductive Dir where
  | enc | dec
  deriving DecidableEq, Repr

/-- One constructor per row of the opcode table (R137). -/
inductive Instr where
  | nop
  | reset
  | outAck
  | lfsrClock (n : LfsrId)
  | lfsrOut (n : LfsrId) (tap : BitVec 5)
  | scLoad
  | scWarmup
  | scStep
  | bcSetkey
  | bcEnc
  | bcDec
  | cmSetiv
  | cmEnc
  | cmDec
  | dgInit
  | dgAbsorb
  | dgFinal
  | coOpen (mode : Mode) (dir : Dir) (pad : Bool)
  | coUnit
  | coEnd
  deriving DecidableEq, Repr

end Sys2Proof
end

