-- ==== Sys2Proof/WellFormed.lean ====
section
/-! DEFINITION. Which terms of `Instr` stand for a command: the range checks of R133 that the types do not make. -/

namespace Sys2Proof

/-- R133: LFSR_OUT accepts n = 1..3, since R[4] has no output taps. Every other operand is in range by its type. -/
def Instr.wellFormed : Instr → Bool
  | .lfsrOut n _ => n != .r4
  | .nop | .reset | .outAck | .lfsrClock _ | .scLoad | .scWarmup | .scStep | .bcSetkey | .bcEnc | .bcDec
  | .cmSetiv | .cmEnc | .cmDec | .dgInit | .dgAbsorb | .dgFinal | .coOpen _ _ _ | .coUnit | .coEnd => true

/-- The well-formed commands. -/
abbrev Instr.WellFormed (i : Instr) : Prop := i.wellFormed = true

end Sys2Proof
end

