-- ==== Sys2Proof/Decode.lean ====
section
/-! DEFINITION. The decoder of spec 30_encoding.md R138, total on 32-bit words and refusing by name, and the encoder of
R131, R132 and R137. A command has one length, 32 bits, and reaches the core as the word written to CMD (R130). -/

namespace Sys2Proof

/-! ## Fields of the command word (R131) -/

/-- OP, bits [7:0]. -/
def fieldOp (c : Word) : BitVec 8 := c.extractLsb' 0 8
/-- SEL (or MODE), bits [11:8]. -/
def fieldSel (c : Word) : BitVec 4 := c.extractLsb' 8 4
/-- DIR, bit [12]. -/
def fieldDir (c : Word) : BitVec 1 := c.extractLsb' 12 1
/-- PAD, bit [13]. -/
def fieldPad (c : Word) : BitVec 1 := c.extractLsb' 13 1
/-- TAP, bits [20:16]. -/
def fieldTap (c : Word) : BitVec 5 := c.extractLsb' 16 5

/-! ## Operand codes (R133, R135, R140) -/

/-- SEL = 1..4 names R[1]..R[4] (R133). -/
def LfsrId.sel : LfsrId → BitVec 4
  | .r1 => 1 | .r2 => 2 | .r3 => 3 | .r4 => 4

/-- The register a SEL value names, if any (R133). -/
def LfsrId.ofSel (v : BitVec 4) : Option LfsrId :=
  if v = 1 then some .r1 else if v = 2 then some .r2 else if v = 3 then some .r3 else if v = 4 then some .r4 else none

/-- The two-bit code of a mode, as CO_STAT and the MODE operand hold it (R50, R135). -/
def Mode.code : Mode → BitVec 2
  | .stream => 0 | .ecb => 1 | .pcbc => 2 | .digest => 3

/-- The MODE operand is four bits wide (R135). -/
def Mode.sel (m : Mode) : BitVec 4 := m.code.setWidth 4

/-- The mode a MODE value names, if any: 4..15 are illegal (R135). -/
def Mode.ofSel (v : BitVec 4) : Option Mode :=
  if v = 0 then some .stream else if v = 1 then some .ecb else if v = 2 then some .pcbc
  else if v = 3 then some .digest else none

/-- DIR: 0 = ENC, 1 = DEC (R131). -/
def Dir.code : Dir → BitVec 1
  | .enc => 0 | .dec => 1

/-- The direction a DIR bit names. -/
def Dir.ofCode (v : BitVec 1) : Dir := if v = 0 then .enc else .dec

/-! ## The opcode map -/

/-- A row of R137: the format, with the command itself where the format has no operands. -/
inductive OpcodeRow where
  /-- format N: no operands -/
  | plain (i : Instr)
  /-- format S: LFSR_CLOCK -/
  | select
  /-- format T: LFSR_OUT -/
  | selectTap
  /-- format O: CO_OPEN -/
  | openStream
  deriving DecidableEq, Repr

/-- R137's opcode map. -/
def opcodeMap : List (BitVec 8 × OpcodeRow) :=
  [(0x00, .plain .nop), (0x01, .plain .reset), (0x02, .plain .outAck),
   (0x10, .select), (0x11, .selectTap),
   (0x20, .plain .scLoad), (0x21, .plain .scWarmup), (0x22, .plain .scStep),
   (0x30, .plain .bcSetkey), (0x31, .plain .bcEnc), (0x32, .plain .bcDec),
   (0x40, .plain .cmSetiv), (0x41, .plain .cmEnc), (0x42, .plain .cmDec),
   (0x50, .plain .dgInit), (0x51, .plain .dgAbsorb), (0x52, .plain .dgFinal),
   (0x60, .openStream), (0x61, .plain .coUnit), (0x62, .plain .coEnd)]

/-- Why a word is ILLEGAL (R138, R139). -/
inductive DecodeError where
  /-- the opcode names no command -/
  | undefinedOpcode
  /-- a bit the format marks 0 is set -/
  | reservedBitSet
  /-- SEL names no register the command accepts -/
  | selOutOfRange
  /-- MODE is 4..15 -/
  | modeOutOfRange
  deriving DecidableEq, Repr

/-- The bits a format marks 0 are zero (R132, R138). -/
def OpcodeRow.reservedClear (r : OpcodeRow) (c : Word) : Bool :=
  match r with
  | .plain _ => c.extractLsb' 8 24 == 0
  | .select => c.extractLsb' 12 20 == 0
  | .selectTap => c.extractLsb' 21 11 == 0 && c.extractLsb' 12 4 == 0
  | .openStream => c.extractLsb' 14 18 == 0

/-- The operands of a row's command, once its reserved bits are clear (R133 to R135). -/
def OpcodeRow.operands (r : OpcodeRow) (c : Word) : Except DecodeError Instr :=
  match r with
  | .plain i => .ok i
  | .select =>
    match LfsrId.ofSel (fieldSel c) with
    | some n => .ok (.lfsrClock n)
    | none => .error .selOutOfRange
  | .selectTap =>
    match LfsrId.ofSel (fieldSel c) with
    | some .r4 => .error .selOutOfRange
    | some n => .ok (.lfsrOut n (fieldTap c))
    | none => .error .selOutOfRange
  | .openStream =>
    match Mode.ofSel (fieldSel c) with
    | some m => .ok (.coOpen m (Dir.ofCode (fieldDir c)) (fieldPad c == 1))
    | none => .error .modeOutOfRange

/-- Decode (R138): a total function on 32-bit words. -/
def decode (c : Word) : Except DecodeError Instr :=
  match opcodeMap.lookup (fieldOp c) with
  | none => .error .undefinedOpcode
  | some r => if r.reservedClear c then r.operands c else .error .reservedBitSet

/-- The host's reading of a table row: the word whose low `nbits` bits are w's, every bit above them 0. A command is one
32-bit word, so a longer row is no command. -/
def decodeTableWord (nbits w : Nat) : Option Instr :=
  if nbits ≤ 32 then (decode (BitVec.ofNat 32 (w % 2 ^ nbits))).toOption else none

/-! ## The encoder (R131, R132, R137) -/

/-- OP of each command (R137). -/
def Instr.opcode : Instr → BitVec 8
  | .nop => 0x00 | .reset => 0x01 | .outAck => 0x02
  | .lfsrClock _ => 0x10 | .lfsrOut _ _ => 0x11
  | .scLoad => 0x20 | .scWarmup => 0x21 | .scStep => 0x22
  | .bcSetkey => 0x30 | .bcEnc => 0x31 | .bcDec => 0x32
  | .cmSetiv => 0x40 | .cmEnc => 0x41 | .cmDec => 0x42
  | .dgInit => 0x50 | .dgAbsorb => 0x51 | .dgFinal => 0x52
  | .coOpen _ _ _ => 0x60 | .coUnit => 0x61 | .coEnd => 0x62

/-- Format N: `000000000000000000000000oooooooo`. -/
def packN (op : BitVec 8) : Word := op.setWidth 32
/-- Format S: `00000000000000000000ssssoooooooo`. -/
def packS (sel : BitVec 4) (op : BitVec 8) : Word := (sel.setWidth 32 <<< 8) ||| op.setWidth 32
/-- Format T: `00000000000ttttt0000ssssoooooooo`. -/
def packT (tap : BitVec 5) (sel : BitVec 4) (op : BitVec 8) : Word :=
  (tap.setWidth 32 <<< 16) ||| (sel.setWidth 32 <<< 8) ||| op.setWidth 32
/-- Format O: `000000000000000000pdmmmmoooooooo`. -/
def packO (pad dir : BitVec 1) (mode : BitVec 4) (op : BitVec 8) : Word :=
  (pad.setWidth 32 <<< 13) ||| (dir.setWidth 32 <<< 12) ||| (mode.setWidth 32 <<< 8) ||| op.setWidth 32

/-- The command word of a command (R132, R143). -/
def encode (i : Instr) : Word :=
  match i with
  | .lfsrClock n => packS n.sel i.opcode
  | .lfsrOut n tap => packT tap n.sel i.opcode
  | .coOpen m d p => packO (BitVec.ofBool p) d.code m.sel i.opcode
  | .nop | .reset | .outAck | .scLoad | .scWarmup | .scStep | .bcSetkey | .bcEnc | .bcDec
  | .cmSetiv | .cmEnc | .cmDec | .dgInit | .dgAbsorb | .dgFinal | .coUnit | .coEnd => packN i.opcode

end Sys2Proof
end

