-- ==== Sys2Proof/Config.lean ====
section
/-! DEFINITION. The free values the spec leaves open. (The values of the spec's parameters, LFSR_TAPS, KS_BIT_ORDER and
BLOCK_WORD_ORDER, stand in Machine/Params.lean.) -/

namespace Sys2Proof

/-- The value of a buffer byte that nothing has written since reset (R98, U4: "each byte a draw (any value)").
The first argument is the number of resets so far, the second the byte's bus address. No body: nothing can be proved of
a draw but that the same byte read twice in one reset epoch gives the same value (R100). Log 3. -/
opaque Config.bufferDraw (epoch addr : Nat) : Byte

end Sys2Proof
end

