-- ==== Sys2Proof/Machine/State.lean ====
section
/-! DEFINITION. The state of the block (spec 10_state.md) as plain data, the reasons a step stops, and the state after
reset (70_reset_and_hazards.md R400). -/

namespace Sys2Proof.Machine

/-- Reasons the machine stops with a fault: NONE. Every error of the block is a state change recorded in STATUS
(R360, R362), every command terminates (R421), and no address of the bus is absent (R95). The type is empty, so no step
faults. -/
inductive Fault where
  deriving DecidableEq, Repr

/-- Reasons a step has no meaning. -/
inductive Refusal where
  /-- No meaning is modelled for the instruction. Raised by no arm of `exec`. Safe: nothing is claimed of the instruction. -/
  | notModelled (mnemonic : String)
  /-- A misaligned bus access, or a CSR access that is not 32 bits wide. Raised by `Machine.hostAccess`. Safe: R93, U5, "A
  model refuses it: the host action has no meaning". -/
  | busError
  /-- A bus access while BUSY = 1. Raised by `Machine.hostAccess`. Safe: R420, U6, "A model of such an implementation
  refuses any host access made while BUSY = 1". -/
  | accessWhileBusy
  deriving DecidableEq, Repr

/-- The causes of an error (R361). Code 0 is `none` in STATUS.ERR; codes 6 to 15 never occur (U13). -/
inductive ErrCause where
  /-- E_ILLEGAL, code 1: the command word does not decode -/
  | illegal
  /-- E_STATE, code 2: the command is not allowed in this state -/
  | state
  /-- E_INVALID_ARG, code 3: a value outside its legal range -/
  | invalidArg
  /-- E_PADDING, code 4: malformed padding on decryption -/
  | padding
  /-- E_LANE, code 5: reserved, raised by no command (R319) -/
  | lane
  deriving DecidableEq, Repr

/-- SC_STATE (R35). -/
inductive ScState where
  | uninit | keyLoaded | running
  deriving DecidableEq, Repr

/-- DG_STATE (R48). -/
inductive DgState where
  | idle | absorbing | done
  deriving DecidableEq, Repr

/-- CO_STATE (R49). -/
inductive CoState where
  | idle | opened | holding
  deriving DecidableEq, Repr

/-- The LFSR register file R[1..4] (R31): bit i is the source's index i (R13). -/
structure Lfsrs where
  r1 : BitVec 19
  r2 : BitVec 22
  r3 : BitVec 23
  r4 : BitVec 17
  deriving DecidableEq, Repr

/-- A 64-bit block v0:v1 as two words (R40, R43, R217). -/
structure Block where
  v0 : Word
  v1 : Word
  deriving DecidableEq, Repr

/-- The digest's four accumulators (R45). -/
structure Acc where
  a : Word
  b : Word
  c : Word
  d : Word
  deriving DecidableEq, Repr

/-- The four key words of the block cipher (R37). -/
structure KeyWords where
  k0 : Word
  k1 : Word
  k2 : Word
  k3 : Word
  deriving DecidableEq, Repr

/-- The width of a bus access (R95). -/
inductive Width where
  | w8 | w16 | w32
  deriving DecidableEq, Repr

/-- One host interaction (R423): a bus read, a bus write, or the reset input. A command is a 32-bit write to CMD. An 8- or
16-bit write carries its data in the low bits of `value` (log 8). -/
inductive HostAction where
  | read (width : Width) (addr : BitVec 18)
  | write (width : Width) (addr : BitVec 18) (value : Word)
  | resetInput
  deriving DecidableEq, Repr

/-- The bytes of IBUF, OBUF0 and OBUF1 written since reset, by bus address, addresses strictly rising. An address that is
not listed has no written byte; reading it gives its draw (R98; log 3, log 4). -/
abbrev Memory := List Host.Cell

/-- The whole state of the block (R30), with the model's own `drawEpoch`, `pending` and `observed`. -/
structure State where
  /-- R[1..4] (R31) -/
  lfsr : Lfsrs
  /-- K[31:0] (R34) -/
  scKeyLo : Word
  /-- K[63:32] (R34) -/
  scKeyHi : Word
  /-- the stream IV (R34) -/
  scIv : BitVec 22
  /-- SC_STATE (R35) -/
  scState : ScState
  /-- the output-bit counter (R36) -/
  scCnt : Word
  /-- BC_KEY0..3 (R37) -/
  bcKey : KeyWords
  /-- BC_ROUNDS (R38) -/
  bcRounds : Word
  /-- BC_READY (R39) -/
  bcReady : Bool
  /-- DATA0:DATA1 (R40) -/
  data : Block
  /-- RESULT[0] (R41) -/
  result : Bool
  /-- CM_IV0:CM_IV1 (R42) -/
  cmIv : Block
  /-- the working block W = W0:W1 (R43) -/
  w : Block
  /-- CM_READY (R44) -/
  cmReady : Bool
  /-- the accumulators H = (A, B, C, D) (R45) -/
  dgH : Acc
  /-- DG_CNT (R46) -/
  dgCnt : BitVec 64
  /-- the residual bytes RES (R47) -/
  dgRes : List Byte
  /-- DG_STATE (R48) -/
  dgState : DgState
  /-- CO_STATE (R49) -/
  coState : CoState
  /-- MODE (R50) -/
  mode : Mode
  /-- DIR (R50) -/
  dir : Dir
  /-- PAD (R50) -/
  pad : Bool
  /-- the held unit HOLD (R51) -/
  hold : List Byte
  /-- CHUNK_SIZE[16:0] (R52) -/
  chunkSize : BitVec 17
  /-- LEN[16:0] (R53) -/
  len : BitVec 17
  /-- STATUS.BUSY (R54, R420; log 7) -/
  busy : Bool
  /-- STATUS.FAILED (R54) -/
  failed : Bool
  /-- STATUS.ERR (R54, R361); none is code 0 -/
  err : Option ErrCause
  /-- STATUS.ERR_OP (R54) -/
  errOp : Byte
  /-- STATUS.OCOUNT (R54) -/
  ocount : BitVec 2
  /-- OUT_LEN0 (R55) -/
  outLen0 : BitVec 17
  /-- OUT_LEN1 (R55) -/
  outLen1 : BitVec 17
  /-- IBUF, OBUF0 and OBUF1 (R95) -/
  mem : Memory
  /-- THE MODEL'S OWN: how many resets the run has made, which selects the draws of unwritten bytes (log 3) -/
  drawEpoch : Nat
  /-- THE MODEL'S OWN: the host interactions still to come, the next one first (R424; log 1) -/
  pending : List HostAction
  /-- THE MODEL'S OWN: the values the run's reads have returned, the first one first (R424; log 2) -/
  observed : List Word
  deriving DecidableEq, Repr

/-- The state after reset (R400, and the reset column of R70). Nothing is listed in memory, so every buffer byte is a draw
(R98); no host interaction is pending and nothing has been observed (log 1, log 2). -/
def State.reset : State where
  lfsr := ⟨0, 0, 0, 0⟩
  scKeyLo := 0
  scKeyHi := 0
  scIv := 0
  scState := .uninit
  scCnt := 0
  bcKey := ⟨0, 0, 0, 0⟩
  bcRounds := 64
  bcReady := false
  data := ⟨0, 0⟩
  result := false
  cmIv := ⟨0, 0⟩
  w := ⟨0, 0⟩
  cmReady := false
  dgH := ⟨0, 0, 0, 0⟩
  dgCnt := 0
  dgRes := []
  dgState := .idle
  coState := .idle
  mode := .stream
  dir := .enc
  pad := false
  hold := []
  chunkSize := 65536
  len := 0
  busy := false
  failed := false
  err := none
  errOp := 0
  ocount := 0
  outLen0 := 0
  outLen1 := 0
  mem := []
  drawEpoch := 0
  pending := []
  observed := []

end Sys2Proof.Machine
end

