-- ==== Sys2Proof/Machine/Params.lean ====
section
/-! DEFINITION. The values the spec gives its parameters: `LFSR_TAPS` (40_lfsr.md R161, D9), `KS_BIT_ORDER`
(41_stream_cipher.md R190, D11), `BLOCK_WORD_ORDER` (42_block_cipher.md R217, D15) and `CHUNK_MAX` (00_scope.md R11).
Each is the default the spec decides (log 5). -/

namespace Sys2Proof.Machine

/-- Feedback taps FB_n (R161). -/
def fbTaps : LfsrId → List Nat
  | .r1 => [13, 16, 17, 18]
  | .r2 => [20, 21]
  | .r3 => [7, 20, 21, 22]
  | .r4 => [11, 16]

/-- Output taps OUT_n (R161); R[4] has none. -/
def outTaps : LfsrId → List Nat
  | .r1 => [12, 14, 15]
  | .r2 => [9, 13, 16]
  | .r3 => [13, 16, 18]
  | .r4 => []

/-- The negated taps the engine passes (R161, R185): 14, 16 and 13. R[4] has none, and 0 stands in its place unread. -/
def negTap : LfsrId → Nat
  | .r1 => 14 | .r2 => 16 | .r3 => 13 | .r4 => 0

/-- `KS_BIT_ORDER = MSB_FIRST` (R190): the data-bit positions the keystream bits of one byte meet, in order. -/
def ksBitPositions : List Nat := [7, 6, 5, 4, 3, 2, 1, 0]

/-- `CHUNK_MAX` (R11): the capacity of IBUF and of each output slot. -/
def chunkMax : Nat := 65536

/-- First bus address of IBUF (R95). -/
def ibufBase : Nat := 0x10000
/-- First bus address of OBUF0 (R95). -/
def obuf0Base : Nat := 0x20000
/-- First bus address of OBUF1 (R95). -/
def obuf1Base : Nat := 0x30000

end Sys2Proof.Machine
end

