-- ==== Sys2Proof/Machine/Bytes.lean ====
section
/-! DEFINITION. Byte sequences and byte orders (spec 00_scope.md R14, R15; 20_memory.md R92, R101). -/

namespace Sys2Proof.Machine

/-- Byte i of a sequence; the callers keep i inside it. -/
def byteAt (b : List Byte) (i : Nat) : Byte := b.getD i 0

/-- `BE32(b[0..4))` (R15). -/
def be32 (b : List Byte) : Word :=
  ((byteAt b 0).setWidth 32 <<< 24) ||| ((byteAt b 1).setWidth 32 <<< 16) ||| ((byteAt b 2).setWidth 32 <<< 8) |||
    (byteAt b 3).setWidth 32

/-- `LE32(b[0..4))` (R15). -/
def le32 (b : List Byte) : Word :=
  (byteAt b 0).setWidth 32 ||| ((byteAt b 1).setWidth 32 <<< 8) ||| ((byteAt b 2).setWidth 32 <<< 16) |||
    ((byteAt b 3).setWidth 32 <<< 24)

/-- `BE32bytes(w)` (R15). -/
def be32Bytes (w : Word) : List Byte :=
  [w.extractLsb' 24 8, w.extractLsb' 16 8, w.extractLsb' 8 8, w.extractLsb' 0 8]

/-- `LE32bytes(w)` (R15). -/
def le32Bytes (w : Word) : List Byte :=
  [w.extractLsb' 0 8, w.extractLsb' 8 8, w.extractLsb' 16 8, w.extractLsb' 24 8]

/-- `LE64bytes(x)` (R15). -/
def le64Bytes (x : BitVec 64) : List Byte :=
  [x.extractLsb' 0 8, x.extractLsb' 8 8, x.extractLsb' 16 8, x.extractLsb' 24 8,
   x.extractLsb' 32 8, x.extractLsb' 40 8, x.extractLsb' 48 8, x.extractLsb' 56 8]

/-- A bus value of one, two or four bytes, little-endian (R92), zero-extended to the bus word. -/
def leWord : List Byte → Word
  | [] => 0
  | b :: bs => b.setWidth 32 ||| (leWord bs <<< 8)

/-- The first n bytes of a bus word, little-endian (R92). -/
def leBytes : Nat → Word → List Byte
  | 0, _ => []
  | n + 1, w => w.setWidth 8 :: leBytes n (w >>> 8)

/-- `rotl32(x, c)` for 1 <= c <= 31 (R14). -/
def rotl32 (x : Word) (c : Nat) : Word := (x <<< c) ||| (x >>> (32 - c))

/-- XOR of two 64-bit blocks, word by word (43_chaining.md, section 1). -/
def Block.xor (x y : Block) : Block := ⟨x.v0 ^^^ y.v0, x.v1 ^^^ y.v1⟩

/-- An 8-byte block as words (R217, `BLOCK_WORD_ORDER = BE`). -/
def blockOfBytes (b : List Byte) : Block := ⟨be32 (b.take 4), be32 (b.drop 4)⟩

/-- The bytes of a block (R217). -/
def Block.bytes (x : Block) : List Byte := be32Bytes x.v0 ++ be32Bytes x.v1

end Sys2Proof.Machine
end

