-- ==== Sys2Proof/Machine/Ops.lean ====
section
/-! DEFINITION. The named operations over memory and state that the commands share: the buffer memory (spec 20_memory.md
R95 to R98), raising an error (60_exceptions.md R362), the reset (70_reset_and_hazards.md R400), emitting an output unit
(45_coordinator.md R293) and the frame of a command: its checks in order, then its effect (R364). -/

namespace Sys2Proof.Machine

/-! ## Buffer memory -/

/-- The written byte at an address, if one has been written since reset (R98). -/
def Memory.lookup : Memory → Nat → Option Byte
  | [], _ => none
  | (k, b) :: m, a => if k = a then some b else Memory.lookup m a

/-- Write one byte, keeping addresses strictly rising. -/
def Memory.store : Memory → Nat → Byte → Memory
  | [], a, b => [(a, b)]
  | (k, c) :: m, a, b =>
    if a < k then (a, b) :: (k, c) :: m
    else if a = k then (a, b) :: m
    else (k, c) :: Memory.store m a b

/-- Write a byte sequence from an address upwards. -/
def Memory.storeBytes : Memory → Nat → List Byte → Memory
  | m, _, [] => m
  | m, a, b :: bs => Memory.storeBytes (Memory.store m a b) (a + 1) bs

/-- The canonical form: addresses strictly rising. (What an unlisted address reads as is no written byte, so no entry can
equal it; log 4.) -/
abbrev Memory.wf (m : Memory) : Prop := List.Pairwise (fun x y => x.1 < y.1) m

/-- A buffer byte as a command or a bus read sees it: the byte written there, or else the draw of this reset epoch (R98). -/
def State.readByte (s : State) (a : Nat) : Byte :=
  match Memory.lookup s.mem a with
  | some b => b
  | none => Config.bufferDraw s.drawEpoch a

/-- `n` bytes from a bus address upwards (R15, R92). -/
def State.readBytes (s : State) (a n : Nat) : List Byte := (List.range n).map fun i => s.readByte (a + i)

/-- Write bytes into the buffer memory from a bus address upwards. -/
def State.writeBytes (s : State) (a : Nat) (bs : List Byte) : State :=
  { s with mem := Memory.storeBytes s.mem a bs }

/-! ## Taking an error, and the way out of it -/

/-- `raise E_X(op)` (R362): the state before the command, with the three error fields written. -/
def State.raise (s : State) (e : ErrCause) (op : Byte) : State :=
  { s with failed := true, err := some e, errOp := op }

/-- The reset (R400), the only way out of FAILED (R368): every register to its reset value, every buffer byte a new draw.
The host's pending interactions and what it has observed are not the block's and stay (log 14). -/
def State.doReset (s : State) : State :=
  { State.reset with drawEpoch := s.drawEpoch + 1, pending := s.pending, observed := s.observed }

/-! ## Emitting an output unit -/

/-- The bus address of the slot the next emit takes. -/
def State.slotBase (s : State) : Nat := if s.ocount = 0 then obuf0Base else obuf1Base

/-- `emit(u)` (R293): unit u into the next free output slot. OCOUNT is 0 or 1 whenever a command emits (R293); slot 1 is
taken for every OCOUNT but 0 (log 15). -/
def State.emit (s : State) (u : List Byte) : State :=
  if s.ocount = 0 then
    { s with mem := Memory.storeBytes s.mem obuf0Base u, outLen0 := BitVec.ofNat 17 u.length, ocount := s.ocount + 1 }
  else
    { s with mem := Memory.storeBytes s.mem obuf1Base u, outLen1 := BitVec.ofNat 17 u.length, ocount := s.ocount + 1 }

/-! ## The frame of a command -/

/-- The first check that fires, in order (R364: "The first condition that holds is the one raised"). -/
def firstError : List (Bool × ErrCause) → Option ErrCause
  | [] => none
  | (hit, e) :: rest => if hit then some e else firstError rest

/-- A command with opcode `op`: its checks in the order its pseudocode lists them, then its effect on a working copy, which
may itself end by raise (R17, R362, R364). -/
def runCommand (op : Byte) (s : State) (checks : List (Bool × ErrCause)) (effect : Except ErrCause State) :
    Host.Outcome State Fault Refusal :=
  match firstError checks with
  | some e => .next (s.raise e op)
  | none =>
    match effect with
    | .ok t => .next t
    | .error e => .next (s.raise e op)

end Sys2Proof.Machine
end

