-- ==== Sys2Proof/Machine/Operands.lean ====
section
/-! DEFINITION. Where the commands' operands come from (spec 30_encoding.md R133 to R136): the unit in IBUF, the stream key,
the block cipher's key words and round count, the LFSR a SEL operand names, and the conditions commands check. -/

namespace Sys2Proof.Machine

/-- `IBUF[0..n)` (R96). -/
def State.ibuf (s : State) (n : Nat) : List Byte := s.readBytes ibufBase n

/-- K = SC_KEY_HI : SC_KEY_LO (R34, R186). -/
def State.streamKey (s : State) : BitVec 64 := (s.scKeyHi.setWidth 64 <<< 32) ||| s.scKeyLo.setWidth 64

/-- key[i] for a two-bit index (R37, R210). -/
def KeyWords.word (k : KeyWords) (i : BitVec 2) : Word :=
  if i = 0 then k.k0 else if i = 1 then k.k1 else if i = 2 then k.k2 else k.k3

/-- nr = BC_ROUNDS (R214). -/
def State.rounds (s : State) : Nat := s.bcRounds.toNat

/-- A stream is open: CO_STATE != IDLE (R364). -/
def State.streamOpen (s : State) : Bool := s.coState != .idle

/-- The engine a mode needs is not ready (R291). -/
def State.engineNotReady (s : State) : Mode → Bool
  | .stream => s.scState != .running
  | .ecb => !s.bcReady
  | .pcbc => !s.bcReady || !s.cmReady
  | .digest => s.dgState != .absorbing

/-- The mode encrypts or decrypts whole 8-byte blocks: ECB or PCBC. -/
def Mode.isBlock : Mode → Bool
  | .stream => false | .ecb => true | .pcbc => true | .digest => false

/-- A direction and padding the mode does not accept (R291). -/
def badOptions (m : Mode) (d : Dir) (p : Bool) : Bool :=
  match m with
  | .stream => p
  | .digest => d == .dec || p
  | .ecb => false
  | .pcbc => false

/-- A CHUNK_SIZE the mode does not accept (R291). -/
def badChunkSize (m : Mode) (cs : Nat) : Bool :=
  decide (cs < 1) || decide (chunkMax < cs) || (Mode.isBlock m && decide (cs % 8 ≠ 0))

end Sys2Proof.Machine
end

