-- ==== Sys2Proof/Machine/Flags.lean ====
section
/-! DEFINITION. The status words: how the flags and state fields read in STATUS, SC_STAT, BC_STAT, CM_STAT, DG_STAT and
CO_STAT (spec 10_state.md R54, R70), and the error codes (60_exceptions.md R361). -/

namespace Sys2Proof.Machine

/-- The code of an error cause (R361). -/
def ErrCause.code : ErrCause → BitVec 4
  | .illegal => 1 | .state => 2 | .invalidArg => 3 | .padding => 4 | .lane => 5

/-- STATUS.ERR (R54): 0 when no error since reset. -/
def errField : Option ErrCause → BitVec 4
  | none => 0
  | some e => e.code

/-- SC_STAT[1:0] (R35). -/
def ScState.code : ScState → BitVec 2
  | .uninit => 0 | .keyLoaded => 1 | .running => 2

/-- DG_STAT[1:0] (R48). -/
def DgState.code : DgState → BitVec 2
  | .idle => 0 | .absorbing => 1 | .done => 2

/-- CO_STAT[1:0] (R49). -/
def CoState.code : CoState → BitVec 2
  | .idle => 0 | .opened => 1 | .holding => 2

/-- A one-bit register as its CSR reads, bits [31:1] zero. -/
def bitWord (b : Bool) : Word := (BitVec.ofBool b).setWidth 32

/-- STATUS: ERR_OP[23:16], OCOUNT[9:8], ERR[7:4], FAILED[1], BUSY[0] (R54). -/
def State.statusWord (s : State) : Word :=
  (s.errOp.setWidth 32 <<< 16) ||| (s.ocount.setWidth 32 <<< 8) ||| ((errField s.err).setWidth 32 <<< 4) |||
    (bitWord s.failed <<< 1) ||| bitWord s.busy

/-- CO_STAT: PAD[7], DIR[6], MODE[5:4], CO_STATE[1:0] (R49, R50). -/
def State.coStatWord (s : State) : Word :=
  (bitWord s.pad <<< 7) ||| (s.dir.code.setWidth 32 <<< 6) ||| (s.mode.code.setWidth 32 <<< 4) |||
    s.coState.code.setWidth 32

/-- DG_STAT: RES_LEN[14:8], DG_STATE[1:0] (R47, R48). -/
def State.dgStatWord (s : State) : Word :=
  ((BitVec.ofNat 7 s.dgRes.length).setWidth 32 <<< 8) ||| s.dgState.code.setWidth 32

end Sys2Proof.Machine
end

