-- ==== Sys2Proof/Machine/Csr.lean ====
section
/-! DEFINITION. The CSR map (spec 10_state.md R70 to R72): offsets, access rights, reads and writes. -/

namespace Sys2Proof.Machine

/-- The registers of R70's table. -/
inductive Csr where
  | id | status | cmd | len | chunkSize | result | coStat
  | scKeyLo | scKeyHi | scIv | scStat | scCnt | scR1 | scR2 | scR3 | scR4
  | bcKey0 | bcKey1 | bcKey2 | bcKey3 | bcRounds | bcStat | data0 | data1
  | cmIv0 | cmIv1 | cmW0 | cmW1 | cmStat
  | dgA | dgB | dgC | dgD | dgCntLo | dgCntHi | dgStat
  | outLen0 | outLen1
  deriving DecidableEq, Repr

/-- Byte offset in the CSR window (R70). -/
def Csr.offset : Csr → Nat
  | .id => 0x000 | .status => 0x004 | .cmd => 0x008 | .len => 0x00C | .chunkSize => 0x010 | .result => 0x014
  | .coStat => 0x018
  | .scKeyLo => 0x020 | .scKeyHi => 0x024 | .scIv => 0x028 | .scStat => 0x02C | .scCnt => 0x030
  | .scR1 => 0x034 | .scR2 => 0x038 | .scR3 => 0x03C | .scR4 => 0x040
  | .bcKey0 => 0x050 | .bcKey1 => 0x054 | .bcKey2 => 0x058 | .bcKey3 => 0x05C | .bcRounds => 0x060 | .bcStat => 0x064
  | .data0 => 0x068 | .data1 => 0x06C
  | .cmIv0 => 0x070 | .cmIv1 => 0x074 | .cmW0 => 0x078 | .cmW1 => 0x07C | .cmStat => 0x080
  | .dgA => 0x090 | .dgB => 0x094 | .dgC => 0x098 | .dgD => 0x09C | .dgCntLo => 0x0A0 | .dgCntHi => 0x0A4
  | .dgStat => 0x0A8
  | .outLen0 => 0x0B0 | .outLen1 => 0x0B4

/-- The registers of offsets 0x000 to 0x040. -/
def Csr.commonAndStream : List Csr :=
  [.id, .status, .cmd, .len, .chunkSize, .result, .coStat,
   .scKeyLo, .scKeyHi, .scIv, .scStat, .scCnt, .scR1, .scR2, .scR3, .scR4]

/-- The registers of offsets 0x050 to 0x080. -/
def Csr.blockAndChaining : List Csr :=
  [.bcKey0, .bcKey1, .bcKey2, .bcKey3, .bcRounds, .bcStat, .data0, .data1,
   .cmIv0, .cmIv1, .cmW0, .cmW1, .cmStat]

/-- The registers of offsets 0x090 to 0x0B4. -/
def Csr.digestAndLengths : List Csr :=
  [.dgA, .dgB, .dgC, .dgD, .dgCntLo, .dgCntHi, .dgStat, .outLen0, .outLen1]

/-- Every register of the table, by rising offset. -/
def Csr.all : List Csr := Csr.commonAndStream ++ (Csr.blockAndChaining ++ Csr.digestAndLengths)

/-- The register at an offset; every other offset is reserved (R71). -/
def Csr.ofOffset (o : Nat) : Option Csr := Csr.all.find? fun c => c.offset == o

/-- The bus address of a register. -/
def Csr.addr (c : Csr) : BitVec 18 := BitVec.ofNat 18 c.offset

/-- Access rights (R70). -/
inductive Access where
  | ro | rw | wo
  deriving DecidableEq, Repr

/-- The access column of R70. -/
def Csr.access : Csr → Access
  | .id | .status | .result | .coStat | .scStat | .scCnt | .bcStat | .cmW0 | .cmW1 | .cmStat
  | .dgA | .dgB | .dgC | .dgD | .dgCntLo | .dgCntHi | .dgStat | .outLen0 | .outLen1 => .ro
  | .cmd => .wo
  | .len | .chunkSize | .scKeyLo | .scKeyHi | .scIv | .scR1 | .scR2 | .scR3 | .scR4
  | .bcKey0 | .bcKey1 | .bcKey2 | .bcKey3 | .bcRounds | .data0 | .data1 | .cmIv0 | .cmIv1 => .rw

/-- The registers whose writes are ignored while CO_STATE != IDLE (R72 (2)). -/
def Csr.locked : Csr → Bool
  | .scR1 | .scR2 | .scR3 | .scR4 | .scKeyLo | .scKeyHi | .scIv
  | .bcKey0 | .bcKey1 | .bcKey2 | .bcKey3 | .bcRounds | .cmIv0 | .cmIv1 | .chunkSize => true
  | .id | .status | .cmd | .len | .result | .coStat | .scStat | .scCnt | .bcStat | .data0 | .data1
  | .cmW0 | .cmW1 | .cmStat | .dgA | .dgB | .dgC | .dgD | .dgCntLo | .dgCntHi | .dgStat | .outLen0 | .outLen1 => false

/-- `csr[NAME]` (R16): the word a read returns (R70). CMD reads 0 (R57). -/
def State.readCsr (s : State) : Csr → Word
  | .id => 0x42544343
  | .status => s.statusWord
  | .cmd => 0
  | .len => s.len.setWidth 32
  | .chunkSize => s.chunkSize.setWidth 32
  | .result => bitWord s.result
  | .coStat => s.coStatWord
  | .scKeyLo => s.scKeyLo
  | .scKeyHi => s.scKeyHi
  | .scIv => s.scIv.setWidth 32
  | .scStat => s.scState.code.setWidth 32
  | .scCnt => s.scCnt
  | .scR1 => s.lfsr.r1.setWidth 32
  | .scR2 => s.lfsr.r2.setWidth 32
  | .scR3 => s.lfsr.r3.setWidth 32
  | .scR4 => s.lfsr.r4.setWidth 32
  | .bcKey0 => s.bcKey.k0
  | .bcKey1 => s.bcKey.k1
  | .bcKey2 => s.bcKey.k2
  | .bcKey3 => s.bcKey.k3
  | .bcRounds => s.bcRounds
  | .bcStat => bitWord s.bcReady
  | .data0 => s.data.v0
  | .data1 => s.data.v1
  | .cmIv0 => s.cmIv.v0
  | .cmIv1 => s.cmIv.v1
  | .cmW0 => s.w.v0
  | .cmW1 => s.w.v1
  | .cmStat => bitWord s.cmReady
  | .dgA => s.dgH.a
  | .dgB => s.dgH.b
  | .dgC => s.dgH.c
  | .dgD => s.dgH.d
  | .dgCntLo => s.dgCnt.extractLsb' 0 32
  | .dgCntHi => s.dgCnt.extractLsb' 32 32
  | .dgStat => s.dgStatWord
  | .outLen0 => s.outLen0.setWidth 32
  | .outLen1 => s.outLen1.setWidth 32

/-- The written bits the register holds are stored, and a write to BC_KEY0..3 or BC_ROUNDS also sets BC_READY <- 0
(R72 (3)). A register that is not RW stores nothing. -/
def State.storeCsr (s : State) (c : Csr) (v : Word) : State :=
  match c with
  | .len => { s with len := v.setWidth 17 }
  | .chunkSize => { s with chunkSize := v.setWidth 17 }
  | .scKeyLo => { s with scKeyLo := v }
  | .scKeyHi => { s with scKeyHi := v }
  | .scIv => { s with scIv := v.setWidth 22 }
  | .scR1 => { s with lfsr := { s.lfsr with r1 := v.setWidth 19 } }
  | .scR2 => { s with lfsr := { s.lfsr with r2 := v.setWidth 22 } }
  | .scR3 => { s with lfsr := { s.lfsr with r3 := v.setWidth 23 } }
  | .scR4 => { s with lfsr := { s.lfsr with r4 := v.setWidth 17 } }
  | .bcKey0 => { s with bcKey := { s.bcKey with k0 := v }, bcReady := false }
  | .bcKey1 => { s with bcKey := { s.bcKey with k1 := v }, bcReady := false }
  | .bcKey2 => { s with bcKey := { s.bcKey with k2 := v }, bcReady := false }
  | .bcKey3 => { s with bcKey := { s.bcKey with k3 := v }, bcReady := false }
  | .bcRounds => { s with bcRounds := v, bcReady := false }
  | .data0 => { s with data := { s.data with v0 := v } }
  | .data1 => { s with data := { s.data with v1 := v } }
  | .cmIv0 => { s with cmIv := { s.cmIv with v0 := v } }
  | .cmIv1 => { s with cmIv := { s.cmIv with v1 := v } }
  | .id | .status | .cmd | .result | .coStat | .scStat | .scCnt | .bcStat | .cmW0 | .cmW1 | .cmStat
  | .dgA | .dgB | .dgC | .dgD | .dgCntLo | .dgCntHi | .dgStat | .outLen0 | .outLen1 => s

/-- `csr[NAME] <- v` by the host (R72, rules 1 to 3, in that order). CMD, which issues a command (R72 (4)), is not written
here. -/
def State.writeCsr (s : State) (c : Csr) (v : Word) : State :=
  if c.access = .ro then s
  else if c.locked = true ∧ s.coState ≠ .idle then s
  else s.storeCsr c v

end Sys2Proof.Machine
end

