-- ==== Sys2Proof/Machine/Control.lean ====
section
/-! DEFINITION. The control commands NOP, RESET and OUT_ACK (spec 46_control.md R340 to R342). None has a check. -/

namespace Sys2Proof.Machine

/-- NOP (R340): no state changes. -/
def execNop (s : State) : Host.Outcome State Fault Refusal := runCommand 0x00 s [] (.ok s)

/-- RESET (R341): the reset of R400. -/
def execReset (s : State) : Host.Outcome State Fault Refusal := runCommand 0x01 s [] (.ok s.doReset)

/-- OUT_ACK (R342): OCOUNT <- 0; the slots' contents and lengths stay. -/
def execOutAck (s : State) : Host.Outcome State Fault Refusal := runCommand 0x02 s [] (.ok { s with ocount := 0 })

end Sys2Proof.Machine
end

