-- ==== Sys2Proof/Machine/BlockCipher.lean ====
section
/-! DEFINITION. The Feistel block cipher (spec 42_block_cipher.md). All arithmetic is on words, mod 2^32 (R213). -/

namespace Sys2Proof.Machine

/-- delta = 0x9E3779B9 (R210). -/
def delta : Word := 0x9E3779B9

/-- The round function on one half: `((x << 4) ^ (x >> 5)) + x` XOR `sum + key[i]` (R210). -/
def feistelMix (x sum k : Word) : Word := (((x <<< 4) ^^^ (x >>> 5)) + x) ^^^ (sum + k)

/-- `key[sum & 3]` (R210). -/
def keyLow (key : KeyWords) (sum : Word) : Word := key.word (sum.setWidth 2)

/-- `key[(sum >> 11) & 3]` (R210). -/
def keyHigh (key : KeyWords) (sum : Word) : Word := key.word ((sum >>> 11).setWidth 2)

/-- n passes of the loop body of R210 from a given sum. -/
def encryptRounds (key : KeyWords) : Nat → Word → Block → Block
  | 0, _, x => x
  | n + 1, sum, x =>
    let v0 := x.v0 + feistelMix x.v1 sum (keyLow key sum)
    let sum' := sum + delta
    let v1 := x.v1 + feistelMix v0 sum' (keyHigh key sum')
    encryptRounds key n sum' ⟨v0, v1⟩

/-- `encryptBlock` (R210). -/
def encryptBlock (key : KeyWords) (nr : Nat) (x : Block) : Block := encryptRounds key nr 0 x

/-- n passes of the loop body of R212 from a given sum. -/
def decryptRounds (key : KeyWords) : Nat → Word → Block → Block
  | 0, _, x => x
  | n + 1, sum, x =>
    let v1 := x.v1 - feistelMix x.v0 sum (keyHigh key sum)
    let sum' := sum - delta
    let v0 := x.v0 - feistelMix v1 sum' (keyLow key sum')
    decryptRounds key n sum' ⟨v0, v1⟩

/-- `decryptBlock` (R212): the sum starts at delta * nr, mod 2^32. -/
def decryptBlock (key : KeyWords) (nr : Nat) (x : Block) : Block :=
  decryptRounds key nr (delta * BitVec.ofNat 32 nr) x

/-- A block function applied to the first n 8-byte blocks of a sequence, in index order (R218). -/
def mapBlocks (f : Block → Block) : Nat → List Byte → List Byte
  | 0, _ => []
  | n + 1, d => (f (blockOfBytes (d.take 8))).bytes ++ mapBlocks f n (d.drop 8)

/-- `ecb_enc(d)` (R218). -/
def ecbEnc (key : KeyWords) (nr : Nat) (d : List Byte) : List Byte := mapBlocks (encryptBlock key nr) (d.length / 8) d

/-- `ecb_dec(d)` (R218). -/
def ecbDec (key : KeyWords) (nr : Nat) (d : List Byte) : List Byte := mapBlocks (decryptBlock key nr) (d.length / 8) d

/-- The Parallel Splitter (R318): the blocks of d are computed in the order `order` lists their indexes, each written into its
own block-indexed slot of the output. No command uses it: it is what `ecbEnc` and `ecbDec` are held against (log 6). -/
def mapBlocksInOrder (f : Block → Block) (d : List Byte) (order : List Nat) : List (List Byte) :=
  order.foldl (fun slots j => slots.set j (f (blockOfBytes ((d.drop (8 * j)).take 8))).bytes)
    (List.replicate (d.length / 8) [])

/-! ## Commands -/

/-- BC_SETKEY (R211). -/
def execBcSetkey (s : State) : Host.Outcome State Fault Refusal :=
  runCommand 0x30 s [(s.streamOpen, .state), (decide (s.rounds < 32), .invalidArg)] (.ok { s with bcReady := true })

/-- BC_ENC (R214). -/
def execBcEnc (s : State) : Host.Outcome State Fault Refusal :=
  runCommand 0x31 s [(s.streamOpen, .state), (!s.bcReady, .state)]
    (.ok { s with data := encryptBlock s.bcKey s.rounds s.data })

/-- BC_DEC (R215). -/
def execBcDec (s : State) : Host.Outcome State Fault Refusal :=
  runCommand 0x32 s [(s.streamOpen, .state), (!s.bcReady, .state)]
    (.ok { s with data := decryptBlock s.bcKey s.rounds s.data })

end Sys2Proof.Machine
end

