-- ==== Sys2Proof/Machine/Chaining.lean ====
section
/-! DEFINITION. The PCBC-style chaining mode (spec 43_chaining.md), wrapped around the block cipher (D17). Each function takes
the working block W and returns the new W with its output. -/

namespace Sys2Proof.Machine

/-- `pcbc_enc_block(P)` (R240): C = E(W ^ P); W <- C ^ P. -/
def pcbcEncBlock (key : KeyWords) (nr : Nat) (w p : Block) : Block × Block :=
  let c := encryptBlock key nr (w.xor p)
  (c.xor p, c)

/-- `pcbc_dec_block(C)` (R241, conflict C1): P = D(C) ^ W; W <- P ^ C. -/
def pcbcDecBlock (key : KeyWords) (nr : Nat) (w c : Block) : Block × Block :=
  let p := (decryptBlock key nr c).xor w
  (p.xor c, p)

/-- A chained block function applied to the first n 8-byte blocks of a sequence, block 0 first, W carried along (R246). -/
def chainBlocks (f : Block → Block → Block × Block) : Nat → Block → List Byte → Block × List Byte
  | 0, w, _ => (w, [])
  | n + 1, w, d =>
    let r := f w (blockOfBytes (d.take 8))
    let rest := chainBlocks f n r.1 (d.drop 8)
    (rest.1, r.2.bytes ++ rest.2)

/-- `pcbc_enc(d)` (R246). -/
def pcbcEnc (key : KeyWords) (nr : Nat) (w : Block) (d : List Byte) : Block × List Byte :=
  chainBlocks (pcbcEncBlock key nr) (d.length / 8) w d

/-- `pcbc_dec(d)` (R246). -/
def pcbcDec (key : KeyWords) (nr : Nat) (w : Block) (d : List Byte) : Block × List Byte :=
  chainBlocks (pcbcDecBlock key nr) (d.length / 8) w d

/-! ## Commands -/

/-- The cipher is not keyed or the IV is not set (R243, R244). -/
def State.chainNotReady (s : State) : Bool := !s.bcReady || !s.cmReady

/-- CM_SETIV (R242). -/
def execCmSetiv (s : State) : Host.Outcome State Fault Refusal :=
  runCommand 0x40 s [(s.streamOpen, .state)] (.ok { s with w := s.cmIv, cmReady := true })

/-- CM_ENC (R243). -/
def execCmEnc (s : State) : Host.Outcome State Fault Refusal :=
  runCommand 0x41 s [(s.streamOpen, .state), (s.chainNotReady, .state)]
    (.ok { s with w := (pcbcEncBlock s.bcKey s.rounds s.w s.data).1, data := (pcbcEncBlock s.bcKey s.rounds s.w s.data).2 })

/-- CM_DEC (R244). -/
def execCmDec (s : State) : Host.Outcome State Fault Refusal :=
  runCommand 0x42 s [(s.streamOpen, .state), (s.chainNotReady, .state)]
    (.ok { s with w := (pcbcDecBlock s.bcKey s.rounds s.w s.data).1, data := (pcbcDecBlock s.bcKey s.rounds s.w s.data).2 })

end Sys2Proof.Machine
end

