-- ==== Sys2Proof/Machine/Digest.lean ====
section
/-! DEFINITION. The Digest Engine (spec 44_digest.md). -/

namespace Sys2Proof.Machine

/-! ## Tables (R261, R264) -/

/-- The initial accumulators (R261). -/
def digestInit : Acc := ⟨0x67452301, 0xEFCDAB89, 0x98BADCFE, 0x10325476⟩

/-- K[0..15] (R264). -/
def sineTable0 : List Word :=
  [0xD76AA478, 0xE8C7B756, 0x242070DB, 0xC1BDCEEE, 0xF57C0FAF, 0x4787C62A, 0xA8304613, 0xFD469501,
   0x698098D8, 0x8B44F7AF, 0xFFFF5BB1, 0x895CD7BE, 0x6B901122, 0xFD987193, 0xA679438E, 0x49B40821]

/-- K[16..31] (R264). -/
def sineTable1 : List Word :=
  [0xF61E2562, 0xC040B340, 0x265E5A51, 0xE9B6C7AA, 0xD62F105D, 0x02441453, 0xD8A1E681, 0xE7D3FBC8,
   0x21E1CDE6, 0xC33707D6, 0xF4D50D87, 0x455A14ED, 0xA9E3E905, 0xFCEFA3F8, 0x676F02D9, 0x8D2A4C8A]

/-- K[32..47] (R264). -/
def sineTable2 : List Word :=
  [0xFFFA3942, 0x8771F681, 0x6D9D6122, 0xFDE5380C, 0xA4BEEA44, 0x4BDECFA9, 0xF6BB4B60, 0xBEBFBC70,
   0x289B7EC6, 0xEAA127FA, 0xD4EF3085, 0x04881D05, 0xD9D4D039, 0xE6DB99E5, 0x1FA27CF8, 0xC4AC5665]

/-- K[48..63] (R264). -/
def sineTable3 : List Word :=
  [0xF4292244, 0x432AFF97, 0xAB9423A7, 0xFC93A039, 0x655B59C3, 0x8F0CCC92, 0xFFEFF47D, 0x85845DD1,
   0x6FA87E4F, 0xFE2CE6E0, 0xA3014314, 0x4E0811A1, 0xF7537E82, 0xBD3AF235, 0x2AD7D2BB, 0xEB86D391]

/-- K[i], i = 0..63 (R264). -/
def sineTable : List Word := sineTable0 ++ sineTable1 ++ sineTable2 ++ sineTable3

/-- The rotate amounts of a group, repeating by i mod 4 (R264). -/
def rotateRow (group : Nat) : List Nat :=
  match group with
  | 0 => [7, 12, 17, 22]
  | 1 => [5, 9, 14, 20]
  | 2 => [4, 11, 16, 23]
  | _ => [6, 10, 15, 21]

/-- S[i] (R264). -/
def rotateAmount (i : Nat) : Nat := (rotateRow (i / 16)).getD (i % 4) 0

/-- The mixing function of round i (R264). -/
def mixing (i : Nat) (b c d : Word) : Word :=
  match i / 16 with
  | 0 => (b &&& c) ||| (~~~b &&& d)
  | 1 => (d &&& b) ||| (~~~d &&& c)
  | 2 => b ^^^ c ^^^ d
  | _ => c ^^^ (b ||| ~~~d)

/-- The message index g(i) of round i (R264). -/
def messageIndex (i : Nat) : Nat :=
  match i / 16 with
  | 0 => i
  | 1 => (5 * i + 1) % 16
  | 2 => (3 * i + 5) % 16
  | _ => (7 * i) % 16

/-! ## Compression (R263, R265) -/

/-- M[0..15] of a 64-byte block (R263). -/
def messageWords (blk : List Byte) : List Word := (List.range 16).map fun j => le32 ((blk.drop (4 * j)).take 4)

/-- One round (R265). -/
def compressRound (m : List Word) (h : Acc) (i : Nat) : Acc :=
  let t := mixing i h.b h.c h.d + h.a + sineTable.getD i 0 + m.getD (messageIndex i) 0
  { a := h.d, b := h.b + rotl32 t (rotateAmount i), c := h.b, d := h.c }

/-- `compress(H, blk)` (R265). -/
def compress (h : Acc) (blk : List Byte) : Acc :=
  let r := (List.range 64).foldl (compressRound (messageWords blk)) h
  ⟨h.a + r.a, h.b + r.b, h.c + r.c, h.d + r.d⟩

/-- Compress the first n 64-byte blocks of a sequence, in order (R262). -/
def compressBlocks : Nat → Acc → List Byte → Acc
  | 0, h, _ => h
  | n + 1, h, buf => compressBlocks n (compress h (buf.take 64)) (buf.drop 64)

/-! ## Absorbing (R262) -/

/-- How many zero bytes follow the 0x80 of a buffer that is then n bytes long, "until length ≡ 56 (mod 64)" (R262). -/
def zeroFill (n : Nat) : Nat := (120 - n % 64) % 64

/-- The padding of a final absorb: 0x80, zeros, then the total bit length as 64 bits little-endian (R262). -/
def digestPad (buf : List Byte) (cnt : BitVec 64) : List Byte :=
  buf ++ [0x80] ++ List.replicate (zeroFill (buf.length + 1)) 0 ++ le64Bytes (8 * cnt)

/-- The buffer an absorb processes: the residual bytes, the data and, when final, the padding (R262). -/
def absorbBuffer (s : State) (data : List Byte) (final : Bool) : List Byte :=
  if final then digestPad (s.dgRes ++ data) (s.dgCnt + BitVec.ofNat 64 data.length) else s.dgRes ++ data

/-- `absorb(data, final)` (R262). -/
def State.absorb (s : State) (data : List Byte) (final : Bool) : State :=
  let buf := absorbBuffer s data final
  let nblk := buf.length / 64
  { s with
    dgCnt := s.dgCnt + BitVec.ofNat 64 data.length
    dgH := compressBlocks nblk s.dgH buf
    dgRes := buf.drop (64 * nblk)
    dgState := if final then .done else s.dgState }

/-- The digest bytes (R266, conflict C2). -/
def Acc.bytes (h : Acc) : List Byte := le32Bytes h.a ++ le32Bytes h.b ++ le32Bytes h.c ++ le32Bytes h.d

/-! ## Commands -/

/-- DG_INIT (R267). -/
def execDgInit (s : State) : Host.Outcome State Fault Refusal :=
  runCommand 0x50 s [(s.streamOpen, .state)]
    (.ok { s with dgH := digestInit, dgCnt := 0, dgRes := [], dgState := .absorbing })

/-- DG_ABSORB (R268). -/
def execDgAbsorb (s : State) : Host.Outcome State Fault Refusal :=
  runCommand 0x51 s
    [(s.streamOpen, .state), (s.dgState != .absorbing, .state), (decide (chunkMax < s.len.toNat), .invalidArg)]
    (.ok (s.absorb (s.ibuf s.len.toNat) false))

/-- DG_FINAL (R269). -/
def execDgFinal (s : State) : Host.Outcome State Fault Refusal :=
  runCommand 0x52 s
    [(s.streamOpen, .state), (s.dgState != .absorbing, .state), (decide (chunkMax < s.len.toNat), .invalidArg)]
    (.ok (s.absorb (s.ibuf s.len.toNat) true))

end Sys2Proof.Machine
end

