-- ==== Sys2Proof/Machine/Lfsr.lean ====
section
/-! DEFINITION. The Shift Register primitive and its two commands (spec 40_lfsr.md). -/

namespace Sys2Proof.Machine

/-! ## The primitive -/

/-- XOR of the bits at the feedback taps (R160). -/
def feedback {n : Nat} (fb : List Nat) (r : BitVec n) : Bool := fb.foldl (fun acc t => acc ^^ r.getLsbD t) false

/-- `clock` (R160): shift toward the higher index, the feedback of the bits BEFORE the shift into index 0. -/
def clockReg {n : Nat} (fb : List Nat) (r : BitVec n) : BitVec n :=
  (r <<< 1) ||| (BitVec.ofBool (feedback fb r)).setWidth n

/-- The majority of a list of votes; with three of them it is `maj` (R14, R162). -/
def majority (votes : List Bool) : Bool := decide (votes.length < 2 * votes.count true)

/-- `outputBit(neg)` (R162): the majority over the output taps, the bit at `neg` inverted before the vote, XORed with the
bit at the highest index. -/
def outputBit {n : Nat} (out : List Nat) (neg : Nat) (r : BitVec n) : Bool :=
  majority (out.map fun t => r.getLsbD t ^^ (t == neg)) ^^ r.getLsbD (n - 1)

/-- Clock the one register R[n]. -/
def Lfsrs.clock (l : Lfsrs) : LfsrId → Lfsrs
  | .r1 => { l with r1 := clockReg (fbTaps .r1) l.r1 }
  | .r2 => { l with r2 := clockReg (fbTaps .r2) l.r2 }
  | .r3 => { l with r3 := clockReg (fbTaps .r3) l.r3 }
  | .r4 => { l with r4 := clockReg (fbTaps .r4) l.r4 }

/-- `outputBit_n(R[n], neg)`. -/
def Lfsrs.outputBit (l : Lfsrs) (neg : Nat) : LfsrId → Bool
  | .r1 => Machine.outputBit (outTaps .r1) neg l.r1
  | .r2 => Machine.outputBit (outTaps .r2) neg l.r2
  | .r3 => Machine.outputBit (outTaps .r3) neg l.r3
  | .r4 => Machine.outputBit (outTaps .r4) neg l.r4

/-! ## Commands -/

/-- LFSR_CLOCK Rn (R165). -/
def execLfsrClock (n : LfsrId) (s : State) : Host.Outcome State Fault Refusal :=
  runCommand 0x10 s [(s.streamOpen, .state)] (.ok { s with lfsr := s.lfsr.clock n })

/-- LFSR_OUT Rn, tap (R166). The first check can fire only for the ill-formed n = 4, which no word decodes to (R133; log 12). -/
def execLfsrOut (n : LfsrId) (tap : BitVec 5) (s : State) : Host.Outcome State Fault Refusal :=
  runCommand 0x11 s
    [(n == .r4, .illegal), (s.streamOpen, .state), (!(outTaps n).contains tap.toNat, .invalidArg)]
    (.ok { s with result := s.lfsr.outputBit tap.toNat n })

end Sys2Proof.Machine
end

