-- ==== Sys2Proof/Machine/StreamCipher.lean ====
section
/-! DEFINITION. The Stream Cipher Engine (spec 41_stream_cipher.md). -/

namespace Sys2Proof.Machine

/-! ## Loading (R181, R182) -/

/-- The 86 bits of `load`, in order: K[0] to K[63], then IV[0] to IV[21] (R181, D52). -/
def loadingBits (k : BitVec 64) (iv : BitVec 22) : List Bool :=
  (List.range 86).map fun i => if i < 64 then k.getLsbD i else iv.getLsbD (i - 64)

/-- Clock all four registers unconditionally. -/
def Lfsrs.clockAll (l : Lfsrs) : Lfsrs := (((l.clock .r1).clock .r2).clock .r3).clock .r4

/-- XOR a bit into bit 0 of every register. -/
def Lfsrs.xorBit0 (l : Lfsrs) (k : Bool) : Lfsrs where
  r1 := l.r1 ^^^ (BitVec.ofBool k).setWidth 19
  r2 := l.r2 ^^^ (BitVec.ofBool k).setWidth 22
  r3 := l.r3 ^^^ (BitVec.ofBool k).setWidth 23
  r4 := l.r4 ^^^ (BitVec.ofBool k).setWidth 17

/-- `load(K, IV)` (R181), from zeroed registers. -/
def loadLfsrs (k : BitVec 64) (iv : BitVec 22) : Lfsrs :=
  (loadingBits k iv).foldl (fun l b => l.clockAll.xorBit0 b) ⟨0, 0, 0, 0⟩

/-- `sync()` (R182): bits 15, 16, 18 and 10 of R[1] to R[4] forced to 1. -/
def Lfsrs.sync (l : Lfsrs) : Lfsrs where
  r1 := l.r1 ||| 1 <<< 15
  r2 := l.r2 ||| 1 <<< 16
  r3 := l.r3 ||| 1 <<< 18
  r4 := l.r4 ||| 1 <<< 10

/-! ## Stepping (R183 to R185) -/

/-- The majority clock (R183): the control bits of R[4] and their majority are sampled before any register clocks. -/
def Lfsrs.majorityClock (l : Lfsrs) : Lfsrs :=
  let c3 := l.r4.getLsbD 3
  let c7 := l.r4.getLsbD 7
  let c10 := l.r4.getLsbD 10
  let m := maj c3 c7 c10
  { r1 := if c10 = m then (l.clock .r1).r1 else l.r1
    r2 := if c3 = m then (l.clock .r2).r2 else l.r2
    r3 := if c7 = m then (l.clock .r3).r3 else l.r3
    r4 := (l.clock .r4).r4 }

/-- The engine's output bit (R185), with the engine's negated taps. -/
def Lfsrs.keystreamBit (l : Lfsrs) : Bool :=
  l.outputBit (negTap .r1) .r1 ^^ l.outputBit (negTap .r2) .r2 ^^ l.outputBit (negTap .r3) .r3

/-- `step()` (R184): a majority clock, then the output bit of the registers it leaves. -/
def Lfsrs.step (l : Lfsrs) : Lfsrs × Bool := (l.majorityClock, l.majorityClock.keystreamBit)

/-- n steps whose output bits are discarded (R187). -/
def Lfsrs.discard : Nat → Lfsrs → Lfsrs
  | 0, l => l
  | n + 1, l => Lfsrs.discard n l.step.1

/-- The warm-up discards 99 output bits (R10, R187). -/
def warmupBits : Nat := 99

/-! ## Keystream application (R190) -/

/-- The next eight keystream bits as a byte, in the order `KS_BIT_ORDER` gives. -/
def ksByte (l : Lfsrs) : Lfsrs × Byte :=
  ksBitPositions.foldl (fun r j => (r.1.step.1, r.2 ||| ((BitVec.ofBool r.1.step.2).setWidth 8 <<< j))) (l, 0)

/-- `ks_xor` on the register file (R190). -/
def ksXor : Lfsrs → List Byte → Lfsrs × List Byte
  | l, [] => (l, [])
  | l, b :: bs => ((ksXor (ksByte l).1 bs).1, (b ^^^ (ksByte l).2) :: (ksXor (ksByte l).1 bs).2)

/-- `ks_xor(data)` (R190): the output bytes, and the state with the registers moved on and SC_CNT advanced by the 8 steps a
byte uses. -/
def State.ksXor (s : State) (u : List Byte) : State × List Byte :=
  ({ s with lfsr := (Machine.ksXor s.lfsr u).1, scCnt := s.scCnt + BitVec.ofNat 32 (8 * u.length) },
   (Machine.ksXor s.lfsr u).2)

/-! ## Commands -/

/-- SC_LOAD (R186). -/
def execScLoad (s : State) : Host.Outcome State Fault Refusal :=
  runCommand 0x20 s [(s.streamOpen, .state)]
    (.ok { s with lfsr := (loadLfsrs s.streamKey s.scIv).sync, scState := .keyLoaded, scCnt := 0 })

/-- SC_WARMUP (R187). -/
def execScWarmup (s : State) : Host.Outcome State Fault Refusal :=
  runCommand 0x21 s [(s.streamOpen, .state), (s.scState != .keyLoaded, .state)]
    (.ok { s with lfsr := Lfsrs.discard warmupBits s.lfsr, scState := .running, scCnt := 0 })

/-- SC_STEP (R188). -/
def execScStep (s : State) : Host.Outcome State Fault Refusal :=
  runCommand 0x22 s [(s.streamOpen, .state), (s.scState != .running, .state)]
    (.ok { s with lfsr := s.lfsr.step.1, result := s.lfsr.step.2, scCnt := s.scCnt + 1 })

end Sys2Proof.Machine
end

