-- ==== Sys2Proof/Machine/Coordinator.lean ====
section
/-! DEFINITION. The Chunk-Padding Coordinator (spec 45_coordinator.md). -/

namespace Sys2Proof.Machine

/-! ## Padding (R297, R298) -/

/-- `addPadding(b)` (R297): p = 8 - (len(b) mod 8) bytes of value p. -/
def addPadding (b : List Byte) : List Byte :=
  b ++ List.replicate (8 - b.length % 8) (BitVec.ofNat 8 (8 - b.length % 8))

/-- `removePadding(t)` (R298): only the last byte is checked (D25). -/
def removePadding (t : List Byte) : Except ErrCause (List Byte) :=
  match t.getLast? with
  | none => .error .padding
  | some p => if p.toNat < 1 ∨ 8 < p.toNat then .error .padding else .ok (t.take (t.length - p.toNat))

/-! ## Processing a unit -/

/-- The block cipher over a block-aligned unit in the stream's mode and direction: ecb_enc or ecb_dec in ECB, pcbc_enc or
pcbc_dec, which moves W, in PCBC (R295, R296). -/
def State.cipherUnit (s : State) (u : List Byte) : State × List Byte :=
  match s.mode, s.dir with
  | .pcbc, .enc => ({ s with w := (pcbcEnc s.bcKey s.rounds s.w u).1 }, (pcbcEnc s.bcKey s.rounds s.w u).2)
  | .pcbc, .dec => ({ s with w := (pcbcDec s.bcKey s.rounds s.w u).1 }, (pcbcDec s.bcKey s.rounds s.w u).2)
  | .ecb, .enc | .stream, .enc | .digest, .enc => (s, ecbEnc s.bcKey s.rounds u)
  | .ecb, .dec | .stream, .dec | .digest, .dec => (s, ecbDec s.bcKey s.rounds u)

/-- The unit's length is not a multiple of 8. -/
def misaligned (u : List Byte) : Bool := decide (u.length % 8 ≠ 0)

/-- `nonfinal(u)` (R295), with the emit that CO_UNIT makes of its result (R292). -/
def State.nonfinal (s : State) (u : List Byte) : Except ErrCause State :=
  match s.mode with
  | .stream => .ok ((s.ksXor u).1.emit (s.ksXor u).2)
  | .digest => .ok (s.absorb u false)
  | .ecb | .pcbc =>
    if misaligned u then .error .invalidArg else .ok ((s.cipherUnit u).1.emit (s.cipherUnit u).2)

/-- The final unit of an ECB or PCBC encryption (R296, R299). -/
def State.finalEnc (s : State) (u : List Byte) : Except ErrCause State :=
  if s.pad then
    if u.length = s.chunkSize.toNat then
      let t := (s.cipherUnit u).1.emit (s.cipherUnit u).2
      .ok ((t.cipherUnit (addPadding [])).1.emit (t.cipherUnit (addPadding [])).2)
    else .ok ((s.cipherUnit (addPadding u)).1.emit (s.cipherUnit (addPadding u)).2)
  else if misaligned u then .error .invalidArg
  else .ok ((s.cipherUnit u).1.emit (s.cipherUnit u).2)

/-- The final unit of an ECB or PCBC decryption (R296): alignment is checked before padding (R364). -/
def State.finalDec (s : State) (u : List Byte) : Except ErrCause State :=
  if misaligned u then .error .invalidArg
  else if s.pad then
    match removePadding (s.cipherUnit u).2 with
    | .ok t => .ok ((s.cipherUnit u).1.emit t)
    | .error e => .error e
  else .ok ((s.cipherUnit u).1.emit (s.cipherUnit u).2)

/-- The final unit of a digest stream (R296, R299, D50). -/
def State.finalDigest (s : State) (u : List Byte) : State :=
  let t := if u.length = s.chunkSize.toNat then (s.absorb u false).absorb [] true else s.absorb u true
  t.emit t.dgH.bytes

/-- `final(u)` (R296). -/
def State.final (s : State) (u : List Byte) : Except ErrCause State :=
  match s.mode with
  | .stream => .ok ((s.ksXor u).1.emit (s.ksXor u).2)
  | .digest => .ok (s.finalDigest u)
  | .ecb | .pcbc =>
    match s.dir with
    | .enc => s.finalEnc u
    | .dec => s.finalDec u

/-! ## Commands -/

/-- What CO_UNIT does once its checks pass (R292): the new unit is read first; a held unit is processed as non-final. -/
def State.acceptUnit (s : State) : Except ErrCause State :=
  match s.coState with
  | .holding =>
    match s.nonfinal s.hold with
    | .ok t => .ok { t with hold := s.ibuf s.len.toNat, coState := .holding }
    | .error e => .error e
  | .idle | .opened => .ok { s with hold := s.ibuf s.len.toNat, coState := .holding }

/-- The unit CO_END processes (R294, R300): HOLD, or the empty unit when none is held. -/
def State.lastUnit (s : State) : List Byte :=
  match s.coState with
  | .holding => s.hold
  | .idle | .opened => []

/-- What CO_END does once its checks pass (R294). -/
def State.endStream (s : State) : Except ErrCause State :=
  match s.final s.lastUnit with
  | .ok t => .ok { t with hold := [], coState := .idle }
  | .error e => .error e

/-- CO_OPEN mode, dir, pad (R291). -/
def execCoOpen (m : Mode) (d : Dir) (p : Bool) (s : State) : Host.Outcome State Fault Refusal :=
  runCommand 0x60 s
    [(s.streamOpen, .state), (s.engineNotReady m, .state), (badOptions m d p, .invalidArg),
     (badChunkSize m s.chunkSize.toNat, .invalidArg)]
    (.ok { s with mode := m, dir := d, pad := p, hold := [], coState := .opened })

/-- CO_UNIT (R292). -/
def execCoUnit (s : State) : Host.Outcome State Fault Refusal :=
  runCommand 0x61 s
    [(!s.streamOpen, .state), (s.ocount != 0, .state), (decide (s.chunkSize.toNat < s.len.toNat), .invalidArg)]
    s.acceptUnit

/-- CO_END (R294). -/
def execCoEnd (s : State) : Host.Outcome State Fault Refusal :=
  runCommand 0x62 s [(!s.streamOpen, .state), (s.ocount != 0, .state)] s.endStream

end Sys2Proof.Machine
end

