-- ==== Sys2Proof/Machine/Dispatch.lean ====
section
/-! DEFINITION. One arm per command: each calls the command's meaning. -/

namespace Sys2Proof.Machine

def exec (i : Instr) (s : State) : Host.Outcome State Fault Refusal :=
  match i with
  | .nop => Sys2Proof.Machine.execNop s
  | .reset => Sys2Proof.Machine.execReset s
  | .outAck => Sys2Proof.Machine.execOutAck s
  | .lfsrClock n => Sys2Proof.Machine.execLfsrClock n s
  | .lfsrOut n tap => Sys2Proof.Machine.execLfsrOut n tap s
  | .scLoad => Sys2Proof.Machine.execScLoad s
  | .scWarmup => Sys2Proof.Machine.execScWarmup s
  | .scStep => Sys2Proof.Machine.execScStep s
  | .bcSetkey => Sys2Proof.Machine.execBcSetkey s
  | .bcEnc => Sys2Proof.Machine.execBcEnc s
  | .bcDec => Sys2Proof.Machine.execBcDec s
  | .cmSetiv => Sys2Proof.Machine.execCmSetiv s
  | .cmEnc => Sys2Proof.Machine.execCmEnc s
  | .cmDec => Sys2Proof.Machine.execCmDec s
  | .dgInit => Sys2Proof.Machine.execDgInit s
  | .dgAbsorb => Sys2Proof.Machine.execDgAbsorb s
  | .dgFinal => Sys2Proof.Machine.execDgFinal s
  | .coOpen m d p => Sys2Proof.Machine.execCoOpen m d p s
  | .coUnit => Sys2Proof.Machine.execCoUnit s
  | .coEnd => Sys2Proof.Machine.execCoEnd s

end Sys2Proof.Machine
end

