-- ==== Sys2Proof/Machine/Bus.lean ====
section
/-! DEFINITION. The host's bus (spec 20_memory.md R90 to R100): the address map, alignment, reads and writes; a write to CMD
issues a command (30_encoding.md R130, 60_exceptions.md R363 and R364); one host interaction (70_reset_and_hazards.md R423). -/

namespace Sys2Proof.Machine

/-- The ranges of the address map (R95). -/
inductive Region where
  | csr | unmapped | ibuf | obuf0 | obuf1
  deriving DecidableEq, Repr

/-- The range an address lies in (R95). -/
def regionOf (a : BitVec 18) : Region :=
  if a.toNat < 0x1000 then .csr
  else if a.toNat < ibufBase then .unmapped
  else if a.toNat < obuf0Base then .ibuf
  else if a.toNat < obuf1Base then .obuf0
  else .obuf1

/-- Bytes of an access. -/
def Width.bytes : Width → Nat
  | .w8 => 1 | .w16 => 2 | .w32 => 4

/-- The access is no bus error (R93): a CSR access is 32 bits wide and aligned, a buffer access is naturally aligned. An
unmapped access has no width or alignment rule (R94) as long as it stays inside the unmapped range (log 8). -/
def accessOk (wd : Width) (a : BitVec 18) : Bool :=
  match regionOf a with
  | .csr => wd == .w32 && a.toNat % 4 == 0
  | .unmapped => decide (a.toNat + wd.bytes ≤ ibufBase)
  | .ibuf | .obuf0 | .obuf1 => a.toNat % wd.bytes == 0

/-- The data of a bus read (R70, R71, R92, R94), zero-extended to 32 bits. -/
def State.busRead (s : State) (wd : Width) (a : BitVec 18) : Word :=
  match regionOf a with
  | .csr =>
    match Csr.ofOffset a.toNat with
    | some c => s.readCsr c
    | none => 0
  | .unmapped => 0
  | .ibuf | .obuf0 | .obuf1 => leWord (s.readBytes a.toNat wd.bytes)

/-- The words the FAILED gate lets through: NOP, RESET and OUT_ACK (R363). -/
def passesGate (c : Word) : Bool := c == 0x00000000 || c == 0x00000001 || c == 0x00000002

/-- A word c written to CMD, in the order of R364: the FAILED gate, decode, then the command's own checks and effect. -/
def issue (c : Word) (s : State) : Host.Outcome State Fault Refusal :=
  if s.failed = true ∧ passesGate c = false then .next s
  else
    match decode c with
    | .ok i => exec i s
    | .error _ => .next (s.raise .illegal (fieldOp c))

/-- A bus write (R72, R92, R94, R97): to a CSR, to IBUF, or ignored. -/
def busWrite (wd : Width) (a : BitVec 18) (v : Word) (s : State) : Host.Outcome State Fault Refusal :=
  match regionOf a with
  | .csr =>
    match Csr.ofOffset a.toNat with
    | some .cmd => issue v s
    | some c => .next (s.writeCsr c v)
    | none => .next s
  | .ibuf => .next (s.writeBytes a.toNat (leBytes wd.bytes v))
  | .unmapped | .obuf0 | .obuf1 => .next s

/-- The access has no meaning: the block is busy (R420), or the access is a bus error (R93). -/
def State.accessRefusal (s : State) (wd : Width) (a : BitVec 18) : Option Refusal :=
  if s.busy = true then some .accessWhileBusy
  else if accessOk wd a = false then some .busError
  else none

/-- One host interaction (R423). A read is appended to what the run has observed (R424). -/
def hostAccess (h : HostAction) (s : State) : Host.Outcome State Fault Refusal :=
  match h with
  | .resetInput => .next s.doReset
  | .read wd a =>
    match s.accessRefusal wd a with
    | some r => .refused r
    | none => .next { s with observed := s.observed ++ [s.busRead wd a] }
  | .write wd a v =>
    match s.accessRefusal wd a with
    | some r => .refused r
    | none => busWrite wd a v s

/-- The host's next interaction, if it has one; without one nothing happens and all state persists (R375; log 1). -/
def hostStep (s : State) : Host.Outcome State Fault Refusal :=
  match s.pending with
  | [] => .next s
  | h :: rest => hostAccess h { s with pending := rest }

/-- The bus write that issues command word c (R57, R141). -/
def commandWrite (c : Word) : HostAction := .write .w32 Csr.cmd.addr c

end Sys2Proof.Machine
end

