-- ==== Sys2Proof/Machine/Step.lean ====
section
/-! DEFINITION. One step of the machine: the host's next interaction and, where it writes CMD, the command it issues (spec
00_scope.md R20, 20_memory.md R103). The block fetches nothing (R58, R106): a command comes from the host (log 1). -/

namespace Sys2Proof.Machine

/-- One step. -/
def step (s : State) : Host.Outcome State Fault Refusal := hostStep s

/-- The state in which the host's next interaction writes the given word to CMD: the word whose low `nbits` bits are w's, the
rest 0. -/
def State.withFetchWord (s : State) (nbits w : Nat) : State :=
  { s with pending := commandWrite (BitVec.ofNat 32 (w % 2 ^ nbits)) :: s.pending }

end Sys2Proof.Machine
end

