-- ==== Sys2Proof/Machine/HostSide.lean ====
section
/-! DEFINITION. What the host does outside the block: the conversions from the wire formats to register values (spec
20_memory.md R110 to R115), and the assembler syntax and pseudo-instructions of host programs (30_encoding.md R140 to R142).
A host program is a list of host interactions. -/

namespace Sys2Proof.Machine

/-! ## Host bus syntax (R141) -/

/-- `WR NAME, value`. -/
def wr (c : Csr) (v : Word) : HostAction := .write .w32 c.addr v

/-- `RD NAME`. -/
def rd (c : Csr) : HostAction := .read .w32 c.addr

/-- `WRB IBUF, offset, "hex bytes"`: byte writes of the listed bytes, from an offset in IBUF upwards. -/
def wrb : Nat → List Byte → List HostAction
  | _, [] => []
  | o, b :: bs => .write .w8 (BitVec.ofNat 18 (ibufBase + o)) (b.setWidth 32) :: wrb (o + 1) bs

/-- `RDB OBUFk, offset, n`: n byte reads, from an offset in the slot's window upwards. -/
def rdb (base o n : Nat) : List HostAction :=
  (List.range n).map fun i => .read .w8 (BitVec.ofNat 18 (base + o + i))

/-- A command mnemonic on its own line: `WR CMD, <its encoding>`. -/
def issueCommand (i : Instr) : HostAction := wr .cmd (encode i)

/-! ## Pseudo-instructions (R142) -/

/-- `SC_INIT`: SC_LOAD then SC_WARMUP. -/
def scInit : List HostAction := [issueCommand .scLoad, issueCommand .scWarmup]

/-- `LFSR_OUTD Rn`: LFSR_OUT with the engine's negated tap. -/
def lfsrOutd (n : LfsrId) : HostAction := issueCommand (.lfsrOut n (BitVec.ofNat 5 (negTap n)))

/-- `PUSH "hex bytes"`: the bytes to IBUF, their number to LEN, then CO_UNIT (R115). -/
def push (u : List Byte) : List HostAction :=
  wrb 0 u ++ [wr .len (BitVec.ofNat 32 u.length), issueCommand .coUnit]

/-- `DRAIN`: RD STATUS, RD OUT_LEN0, RD OUT_LEN1, read the valid slots, then OUT_ACK. The arguments are what the three reads
return: OCOUNT and the two lengths. -/
def drain (ocount len0 len1 : Nat) : List HostAction :=
  [rd .status, rd .outLen0, rd .outLen1] ++
  (if 1 ≤ ocount then rdb obuf0Base 0 len0 else []) ++
  (if 2 ≤ ocount then rdb obuf1Base 0 len1 else []) ++
  [issueCommand .outAck]

/-! ## Assembler syntax (R140) -/

/-- Operand spelling of an LFSR register. -/
def asmReg (t : String) : Option LfsrId :=
  if t = "R1" then some .r1 else if t = "R2" then some .r2 else if t = "R3" then some .r3
  else if t = "R4" then some .r4 else none

/-- The decimal spellings of the taps 0..31. -/
def tapSpellings : List String :=
  ["0", "1", "2", "3", "4", "5", "6", "7", "8", "9", "10", "11", "12", "13", "14", "15"] ++
  ["16", "17", "18", "19", "20", "21", "22", "23", "24", "25", "26", "27", "28", "29", "30", "31"]

/-- Operand spelling of a tap. -/
def asmTap (t : String) : Option (BitVec 5) := (tapSpellings.findIdx? (· == t)).map (BitVec.ofNat 5)

/-- Operand spelling of a mode. -/
def asmMode (t : String) : Option Mode :=
  if t = "STREAM" then some .stream else if t = "ECB" then some .ecb else if t = "PCBC" then some .pcbc
  else if t = "DIGEST" then some .digest else none

/-- Operand spelling of a direction. -/
def asmDir (t : String) : Option Dir := if t = "ENC" then some .enc else if t = "DEC" then some .dec else none

/-- Operand spelling of the padding. -/
def asmPad (t : String) : Option Bool := if t = "PAD" then some true else if t = "NOPAD" then some false else none

/-- The bare mnemonics of format N. -/
def bareMnemonics : List (String × Instr) :=
  [("NOP", .nop), ("RESET", .reset), ("OUT_ACK", .outAck), ("SC_LOAD", .scLoad), ("SC_WARMUP", .scWarmup),
   ("SC_STEP", .scStep), ("BC_SETKEY", .bcSetkey), ("BC_ENC", .bcEnc), ("BC_DEC", .bcDec), ("CM_SETIV", .cmSetiv),
   ("CM_ENC", .cmEnc), ("CM_DEC", .cmDec), ("DG_INIT", .dgInit), ("DG_ABSORB", .dgAbsorb), ("DG_FINAL", .dgFinal),
   ("CO_UNIT", .coUnit), ("CO_END", .coEnd)]

/-- The direction and padding operands of CO_OPEN; an omitted one is ENC or NOPAD (R140; log 16). -/
def asmOpenOptions : List String → Option (Dir × Bool)
  | [] => some (.enc, false)
  | [t] =>
    match asmDir t, asmPad t with
    | some d, _ => some (d, false)
    | none, some p => some (.enc, p)
    | none, none => none
  | [t, u] =>
    match asmDir t, asmPad u with
    | some d, some p => some (d, p)
    | _, _ => none
  | _ :: _ :: _ :: _ => none

/-- One command line, already split into its mnemonic and its operands (R140). -/
def assemble (mnemonic : String) (operands : List String) : Option Instr :=
  if mnemonic = "LFSR_CLOCK" then
    match operands with
    | [r] => (asmReg r).map .lfsrClock
    | _ => none
  else if mnemonic = "LFSR_OUT" then
    match operands with
    | [r, t] =>
      match asmReg r, asmTap t with
      | some n, some tap => if n = .r4 then none else some (.lfsrOut n tap)
      | _, _ => none
    | _ => none
  else if mnemonic = "CO_OPEN" then
    match operands with
    | m :: opts =>
      match asmMode m, asmOpenOptions opts with
      | some mode, some (d, p) => some (.coOpen mode d p)
      | _, _ => none
    | [] => none
  else if operands = [] then bareMnemonics.lookup mnemonic
  else none

/-! ## Wire formats (R110 to R114) -/

/-- A character of a bit string: '0' or '1'; any other is invalid (D42). -/
def bitChar (c : Char) : Option Bool := if c = '0' then some false else if c = '1' then some true else none

/-- The bits of a bit string, its LAST character first: the character that maps to bit index 0 (R110). -/
def bitsFromLast (s : List Char) : Option (List Bool) := s.reverse.mapM bitChar

/-- A bit string of exactly n characters as an n-bit register input; none is invalid-argument (R110, R111). -/
def bitString (n : Nat) (s : List Char) : Option (BitVec n) :=
  if s.length = n then (bitsFromLast s).map fun bs => BitVec.ofNat n (Nat.ofBits fun i : Fin n => bs.getD i.val false) else none

/-- The stream key from its wire form, and the host's writes (R110). Nothing is written on invalid-argument. -/
def wireStreamKey (s : List Char) : Option (List HostAction) :=
  (bitString 64 s).map fun k => [wr .scKeyLo (k.extractLsb' 0 32), wr .scKeyHi (k.extractLsb' 32 32)]

/-- The stream IV from its wire form, and the host's write (R111). -/
def wireStreamIv (s : List Char) : Option (List HostAction) :=
  (bitString 22 s).map fun v => [wr .scIv (v.setWidth 32)]

/-- key[i] = BE32(kb[4i..4i+4)) (R112, conflict C4). -/
def keyWordsOfBytes (kb : List Byte) : KeyWords :=
  ⟨be32 (kb.take 4), be32 ((kb.drop 4).take 4), be32 ((kb.drop 8).take 4), be32 ((kb.drop 12).take 4)⟩

/-- The block cipher key from its wire form, exactly 16 bytes, and the host's writes (R112). -/
def wireBlockKey (kb : List Byte) : Option (List HostAction) :=
  if kb.length = 16 then
    let k := keyWordsOfBytes kb
    some [wr .bcKey0 k.k0, wr .bcKey1 k.k1, wr .bcKey2 k.k2, wr .bcKey3 k.k3]
  else none

/-- The chaining IV from its wire form, exactly 8 bytes, and the host's writes (R113). -/
def wireChainIv (iv : List Byte) : Option (List HostAction) :=
  if iv.length = 8 then some [wr .cmIv0 (be32 (iv.take 4)), wr .cmIv1 (be32 (iv.drop 4))] else none

/-- A hexadecimal digit, lowercase (R114). -/
def hexDigit (v : Nat) : Char :=
  ['0', '1', '2', '3', '4', '5', '6', '7', '8', '9', 'a', 'b', 'c', 'd', 'e', 'f'].getD v '0'

/-- The digest in wire form: 32 lowercase hexadecimal characters, each byte high nibble first (R114, D46). -/
def wireDigest (h : Acc) : List Char :=
  h.bytes.flatMap fun b => [hexDigit (b.toNat / 16), hexDigit (b.toNat % 16)]

end Sys2Proof.Machine
end

