-- ==== Sys2Proof/Safety.lean ====
section
/-! DEFINITION. What counts as a good state and a finished run, in the terms the claims use (spec 70_reset_and_hazards.md
R404, R424; 60_exceptions.md; 45_coordinator.md). -/

namespace Sys2Proof.Machine

/-! ## Facts every reachable state has -/

/-- The buffer memory is canonical, and every written byte lies in IBUF, OBUF0 or OBUF1 (R95). -/
def State.MemOk (s : State) : Prop :=
  Memory.wf s.mem ∧ ∀ c ∈ s.mem, ibufBase ≤ c.1 ∧ c.1 < 0x40000

/-- The sizes the spec gives: RES holds 0 to 63 bytes (R47), HOLD 0 to CHUNK_MAX (R51), OCOUNT is 0 to 2 (R54), and an
output unit fits its slot (R293). -/
def State.SizesOk (s : State) : Prop :=
  s.dgRes.length ≤ 63 ∧ s.hold.length ≤ chunkMax ∧ s.ocount.toNat ≤ 2 ∧
    s.outLen0.toNat ≤ chunkMax ∧ s.outLen1.toNat ≤ chunkMax

/-- STATUS tells one story (R54, R361, R363): an error is recorded exactly when FAILED is set, ERR_OP is 0 until then, the
reserved cause E_LANE is never recorded, and BUSY is never seen set (R420). -/
def State.StatusOk (s : State) : Prop :=
  (s.failed = true ↔ s.err ≠ none) ∧ (s.failed = false → s.errOp = 0) ∧ s.err ≠ some .lane ∧ s.busy = false

/-- BC_READY vouches for a legal round count (R39, R211). -/
def State.KeyOk (s : State) : Prop := s.bcReady = true → 32 ≤ s.rounds

/-- HOLD is defined only while HOLDING (R51): it is empty in the other states, and never longer than CHUNK_SIZE (R292). -/
def State.HoldOk (s : State) : Prop :=
  (s.coState ≠ .holding → s.hold = []) ∧ (s.coState = .holding → s.hold.length ≤ s.chunkSize.toNat)

/-- An open stream was opened legally and nothing but the coordinator has touched its engine since (R290, R291): the engine
is ready, the options are ones the mode accepts and CHUNK_SIZE is legal. -/
def State.StreamOk (s : State) : Prop :=
  s.coState ≠ .idle →
    s.engineNotReady s.mode = false ∧ badOptions s.mode s.dir s.pad = false ∧
      badChunkSize s.mode s.chunkSize.toNat = false

/-- The invariant of the machine. -/
def State.Inv (s : State) : Prop :=
  s.MemOk ∧ s.SizesOk ∧ s.StatusOk ∧ s.KeyOk ∧ s.HoldOk ∧ s.StreamOk

/-! ## Runs -/

/-- The run has performed its last interaction (R424). -/
def State.RunEnded (s : State) : Prop := s.pending = []

/-- The run has ended, and not in error (R424). -/
def State.EndedWell (s : State) : Prop := s.RunEnded ∧ s.failed = false

/-- The launch premise's default part (R404): FAILED = 0, OCOUNT = 0, CO_STATE = IDLE. -/
def State.Launch (s : State) : Prop := s.failed = false ∧ s.ocount = 0 ∧ s.coState = .idle

/-! ## The spec's tables, as the claims cite them -/

/-- A word that decodes, by the arithmetic of its bits (R137, R138): a format-N opcode alone; LFSR_CLOCK with SEL 1..4;
LFSR_OUT with SEL 1..3 and any TAP; CO_OPEN with MODE 0..3 and any DIR and PAD. -/
def LegalWord (c : Word) : Prop :=
  c.toNat ∈ [0x00, 0x01, 0x02, 0x20, 0x21, 0x22, 0x30, 0x31, 0x32, 0x40, 0x41, 0x42, 0x50, 0x51, 0x52, 0x61, 0x62] ∨
  (∃ sel, 1 ≤ sel ∧ sel ≤ 4 ∧ c.toNat = sel * 0x100 + 0x10) ∨
  (∃ sel tap, 1 ≤ sel ∧ sel ≤ 3 ∧ tap < 32 ∧ c.toNat = tap * 0x10000 + sel * 0x100 + 0x11) ∨
  (∃ mode dir pad, mode < 4 ∧ dir < 2 ∧ pad < 2 ∧ c.toNat = pad * 0x2000 + dir * 0x1000 + mode * 0x100 + 0x60)

/-- R70's reset column: offset and value of every CSR that can be read. -/
def resetColumn : List (Nat × Word) :=
  [(0x000, 0x42544343), (0x004, 0), (0x008, 0), (0x00C, 0), (0x010, 0x00010000), (0x014, 0), (0x018, 0),
   (0x020, 0), (0x024, 0), (0x028, 0), (0x02C, 0), (0x030, 0), (0x034, 0), (0x038, 0), (0x03C, 0), (0x040, 0)] ++
  [(0x050, 0), (0x054, 0), (0x058, 0), (0x05C, 0), (0x060, 0x00000040), (0x064, 0), (0x068, 0), (0x06C, 0),
   (0x070, 0), (0x074, 0), (0x078, 0), (0x07C, 0), (0x080, 0)] ++
  [(0x090, 0), (0x094, 0), (0x098, 0), (0x09C, 0), (0x0A0, 0), (0x0A4, 0), (0x0A8, 0), (0x0B0, 0), (0x0B4, 0)]

/-- The fields column of R70 from 0x000 to 0x040: the offset, the register, and the number its fields make (R54, R50, R32 to R36,
R41, R49, R52, R53, R56, R57), every bit the table does not list 0. -/
def State.lowFields (s : State) : List (Nat × Csr × Nat) :=
  [(0x000, .id, 0x42544343),
   (0x004, .status,
    s.errOp.toNat * 65536 + s.ocount.toNat * 256 +
      (match s.err with
        | none => 0 | some .illegal => 1 | some .state => 2 | some .invalidArg => 3 | some .padding => 4
        | some .lane => 5) * 16 + s.failed.toNat * 2 + s.busy.toNat),
   (0x008, .cmd, 0), (0x00C, .len, s.len.toNat), (0x010, .chunkSize, s.chunkSize.toNat), (0x014, .result, s.result.toNat),
   (0x018, .coStat,
    s.pad.toNat * 128 + (match s.dir with | .enc => 0 | .dec => 1) * 64 +
      (match s.mode with | .stream => 0 | .ecb => 1 | .pcbc => 2 | .digest => 3) * 16 +
      (match s.coState with | .idle => 0 | .opened => 1 | .holding => 2)),
   (0x020, .scKeyLo, s.scKeyLo.toNat), (0x024, .scKeyHi, s.scKeyHi.toNat), (0x028, .scIv, s.scIv.toNat),
   (0x02C, .scStat, match s.scState with | .uninit => 0 | .keyLoaded => 1 | .running => 2),
   (0x030, .scCnt, s.scCnt.toNat),
   (0x034, .scR1, s.lfsr.r1.toNat), (0x038, .scR2, s.lfsr.r2.toNat), (0x03C, .scR3, s.lfsr.r3.toNat),
   (0x040, .scR4, s.lfsr.r4.toNat)]

/-- The fields column of R70 from 0x050 to 0x0B4 (R37 to R48, R55). -/
def State.highFields (s : State) : List (Nat × Csr × Nat) :=
  [(0x050, .bcKey0, s.bcKey.k0.toNat), (0x054, .bcKey1, s.bcKey.k1.toNat), (0x058, .bcKey2, s.bcKey.k2.toNat),
   (0x05C, .bcKey3, s.bcKey.k3.toNat), (0x060, .bcRounds, s.bcRounds.toNat), (0x064, .bcStat, s.bcReady.toNat),
   (0x068, .data0, s.data.v0.toNat), (0x06C, .data1, s.data.v1.toNat),
   (0x070, .cmIv0, s.cmIv.v0.toNat), (0x074, .cmIv1, s.cmIv.v1.toNat),
   (0x078, .cmW0, s.w.v0.toNat), (0x07C, .cmW1, s.w.v1.toNat), (0x080, .cmStat, s.cmReady.toNat),
   (0x090, .dgA, s.dgH.a.toNat), (0x094, .dgB, s.dgH.b.toNat), (0x098, .dgC, s.dgH.c.toNat), (0x09C, .dgD, s.dgH.d.toNat),
   (0x0A0, .dgCntLo, s.dgCnt.toNat % 2 ^ 32), (0x0A4, .dgCntHi, s.dgCnt.toNat / 2 ^ 32),
   (0x0A8, .dgStat,
    s.dgRes.length * 256 + (match s.dgState with | .idle => 0 | .absorbing => 1 | .done => 2)),
   (0x0B0, .outLen0, s.outLen0.toNat), (0x0B4, .outLen1, s.outLen1.toNat)]

/-- Every CSR of R70's table: its offset, the register and the number its fields make. -/
def State.csrFields (s : State) : List (Nat × Csr × Nat) := s.lowFields ++ s.highFields

/-- The next n keystream bits from a register file as a number, the first bit most significant (how 95_test_vectors.md V34a writes
them). -/
def keystreamNumber (l : Lfsrs) (n : Nat) : Nat :=
  ((List.range n).foldl (fun (r : Lfsrs × Nat) _ => (r.1.step.1, 2 * r.2 + r.1.step.2.toNat)) (l, 0)).2

/-- 95_test_vectors.md V40 to V45c: key, number of rounds, block, and its encryption. -/
def blockVectors : List (KeyWords × Nat × Block × Block) :=
  [(⟨0x00010203, 0x04050607, 0x08090A0B, 0x0C0D0E0F⟩, 64, ⟨0x41424344, 0x45464748⟩, ⟨0xFCE22584, 0x245503EF⟩),
   (⟨0x00010203, 0x04050607, 0x08090A0B, 0x0C0D0E0F⟩, 32, ⟨0x41424344, 0x45464748⟩, ⟨0x497DF3D0, 0x72612CB5⟩),
   (⟨0x00010203, 0x04050607, 0x08090A0B, 0x0C0D0E0F⟩, 33, ⟨0x41424344, 0x45464748⟩, ⟨0x9A90CB99, 0x97A7DE36⟩),
   (⟨0, 0, 0, 0⟩, 32, ⟨0, 0⟩, ⟨0xDEE9D4D8, 0xF7131ED9⟩),
   (⟨0, 0, 0, 0⟩, 64, ⟨0, 0⟩, ⟨0xFC924D12, 0x4AD0ED50⟩),
   (⟨0x00010203, 0x04050607, 0x08090A0B, 0x0C0D0E0F⟩, 32, ⟨0, 0⟩, ⟨0xE4CF21F8, 0xAAE13F64⟩),
   (⟨0x00010203, 0x04050607, 0x08090A0B, 0x0C0D0E0F⟩, 64, ⟨0, 0⟩, ⟨0xD5DDC472, 0x928D3A1D⟩),
   (⟨0xFFFFFFFF, 0xFFFFFFFF, 0xFFFFFFFF, 0xFFFFFFFF⟩, 64, ⟨0xFFFFFFFF, 0xFFFFFFFF⟩, ⟨0x178B5B96, 0xBBEA749A⟩),
   (⟨0x00010203, 0x04050607, 0x08090A0B, 0x0C0D0E0F⟩, 64, ⟨0x08080808, 0x08080808⟩, ⟨0x45DB0721, 0x9844C1F0⟩)]

/-- What R400 says of the state after reset: every CSR at its reset column, R[1] to R[4] zero, HOLD and RES empty, and no buffer
byte written (its contents are unspecified). "No other state exists." -/
def State.IsReset (t : State) : Prop :=
  (∀ p ∈ resetColumn, t.busRead .w32 (BitVec.ofNat 18 p.1) = p.2) ∧ t.lfsr = ⟨0, 0, 0, 0⟩ ∧ t.hold = [] ∧ t.dgRes = [] ∧
    ∀ a : Nat, Memory.lookup t.mem a = none

/-- The bits of an RW register that a write stores (the fields column of R70); no bit of any other register. -/
def Csr.writeMask : Csr → Word
  | .len | .chunkSize => 0x0001FFFF
  | .scIv => 0x003FFFFF
  | .scR1 => 0x0007FFFF
  | .scR2 => 0x003FFFFF
  | .scR3 => 0x007FFFFF
  | .scR4 => 0x0001FFFF
  | .scKeyLo | .scKeyHi | .bcKey0 | .bcKey1 | .bcKey2 | .bcKey3 | .bcRounds | .data0 | .data1 | .cmIv0 | .cmIv1 =>
    0xFFFFFFFF
  | .id | .status | .cmd | .result | .coStat | .scStat | .scCnt | .bcStat | .cmW0 | .cmW1 | .cmStat
  | .dgA | .dgB | .dgC | .dgD | .dgCntLo | .dgCntHi | .dgStat | .outLen0 | .outLen1 => 0

/-- A write to the register also clears BC_READY (R72 (3)). -/
def Csr.clearsReady : Csr → Bool
  | .bcKey0 | .bcKey1 | .bcKey2 | .bcKey3 | .bcRounds => true
  | .id | .status | .cmd | .len | .chunkSize | .result | .coStat | .scKeyLo | .scKeyHi | .scIv | .scStat | .scCnt
  | .scR1 | .scR2 | .scR3 | .scR4 | .bcStat | .data0 | .data1 | .cmIv0 | .cmIv1 | .cmW0 | .cmW1 | .cmStat
  | .dgA | .dgB | .dgC | .dgD | .dgCntLo | .dgCntHi | .dgStat | .outLen0 | .outLen1 => false

/-- The causes each command can raise once its word has decoded (R365, without code 1, which is raised at decode). -/
def errorCauses : Instr → List ErrCause
  | .nop | .reset | .outAck => []
  | .lfsrClock _ | .scLoad | .scWarmup | .scStep | .bcEnc | .bcDec | .cmSetiv | .cmEnc | .cmDec | .dgInit => [.state]
  | .lfsrOut _ _ | .bcSetkey | .dgAbsorb | .dgFinal | .coOpen _ _ _ | .coUnit => [.state, .invalidArg]
  | .coEnd => [.state, .invalidArg, .padding]

/-- The direct engine commands: every command that raises E_STATE while a stream is open (R364 item 3), CO_OPEN among them. -/
def needsIdle : Instr → Bool
  | .nop | .reset | .outAck | .coUnit | .coEnd => false
  | .lfsrClock _ | .lfsrOut _ _ | .scLoad | .scWarmup | .scStep | .bcSetkey | .bcEnc | .bcDec | .cmSetiv | .cmEnc | .cmDec
  | .dgInit | .dgAbsorb | .dgFinal | .coOpen _ _ _ => true

end Sys2Proof.Machine
end

