-- ==== Sys2Proof/Certificates/Slice0/Obligations.lean ====
section
/-! DEFINITION. The statements for the provers. Each docstring names the rule of the spec it formalises. `next` states are
written out, so that each equation also says what the command leaves unchanged. -/

open Sys2Proof Sys2Proof.Machine

/-! ## Encoding (30_encoding.md) -/

/-- R131, R132, R137: decoding the word of a well-formed command gives the command, at every value of its operands. -/
def Obligations.EncodeThenDecode : Prop := ∀ i : Instr, i.WellFormed → decode (encode i) = .ok i

/-- R138, R139 (no bit of a legal word is ignored): a word that decodes is the word of the command it decodes to. -/
def Obligations.DecodeThenEncode : Prop := ∀ (c : Word) (i : Instr), decode c = .ok i → i.WellFormed ∧ encode i = c

/-- R143 (the spec's own inference from R131, R132 and R137): the worked encodings. -/
def Obligations.WorkedEncodingsDecode : Prop :=
  decode 0x00000000 = .ok .nop ∧ decode 0x00000001 = .ok .reset ∧ decode 0x00000002 = .ok .outAck ∧
  decode 0x00000110 = .ok (.lfsrClock .r1) ∧ decode 0x00000410 = .ok (.lfsrClock .r4) ∧
  decode 0x000E0111 = .ok (.lfsrOut .r1 14) ∧ decode 0x00100211 = .ok (.lfsrOut .r2 16) ∧
  decode 0x000D0311 = .ok (.lfsrOut .r3 13) ∧
  decode 0x00000020 = .ok .scLoad ∧ decode 0x00000021 = .ok .scWarmup ∧ decode 0x00000022 = .ok .scStep ∧
  decode 0x00000030 = .ok .bcSetkey ∧ decode 0x00000031 = .ok .bcEnc ∧ decode 0x00000032 = .ok .bcDec ∧
  decode 0x00000040 = .ok .cmSetiv ∧ decode 0x00000041 = .ok .cmEnc ∧ decode 0x00000042 = .ok .cmDec ∧
  decode 0x00000050 = .ok .dgInit ∧ decode 0x00000051 = .ok .dgAbsorb ∧ decode 0x00000052 = .ok .dgFinal ∧
  decode 0x00000060 = .ok (.coOpen .stream .enc false) ∧
  decode 0x00002160 = .ok (.coOpen .ecb .enc true) ∧ decode 0x00003160 = .ok (.coOpen .ecb .dec true) ∧
  decode 0x00002260 = .ok (.coOpen .pcbc .enc true) ∧ decode 0x00003260 = .ok (.coOpen .pcbc .dec true) ∧
  decode 0x00000360 = .ok (.coOpen .digest .enc false) ∧
  decode 0x00000061 = .ok .coUnit ∧ decode 0x00000062 = .ok .coEnd

/-- R139: every word but the legal ones is illegal, and writing it to CMD raises E_ILLEGAL with no other change; every legal
word decodes. -/
def Obligations.IllegalWordsRaise : Prop :=
  ∀ (c : Word) (s : State),
    (LegalWord c → ∃ i, decode c = .ok i) ∧
    (¬ LegalWord c → s.failed = false →
      issue c s = .next { s with failed := true, err := some .illegal, errOp := c.extractLsb' 0 8 })

/-! ## Steps, the gate and errors (60_exceptions.md) -/

/-- R57, R130: a step whose host interaction writes a word to CMD issues that word, and a word that decodes and passes the
FAILED gate runs its command, on the state with the interaction taken off the queue. -/
def Obligations.StepRunsTheDecodedCommand : Prop :=
  ∀ (s : State) (c : Word) (i : Instr) (rest : List HostAction),
    s.pending = .write .w32 0x00008 c :: rest → s.busy = false → decode c = .ok i →
    (s.failed = false ∨ c = 0x00000000 ∨ c = 0x00000001 ∨ c = 0x00000002) →
    step s = exec i { s with pending := rest }

/-- R363: while FAILED = 1 every word but NOP, RESET and OUT_ACK is ignored, undecodable ones too; those three run; CSR writes
and reads are performed as ever; and no step but a reset changes FAILED, ERR or ERR_OP. -/
def Obligations.FailedGateUntilReset : Prop :=
  ∀ (s : State) (rest : List HostAction), s.failed = true → s.busy = false →
    (∀ c : Word, c ≠ 0x00000000 → c ≠ 0x00000001 → c ≠ 0x00000002 →
      s.pending = .write .w32 0x00008 c :: rest → step s = .next { s with pending := rest }) ∧
    (s.pending = .write .w32 0x00008 0x00000000 :: rest → step s = .next { s with pending := rest }) ∧
    (s.pending = .write .w32 0x00008 0x00000001 :: rest → step s = .next { s with pending := rest }.doReset) ∧
    (s.pending = .write .w32 0x00008 0x00000002 :: rest → step s = .next { s with pending := rest, ocount := 0 }) ∧
    (∀ (c : Csr) (v : Word), c ≠ .cmd → s.pending = .write .w32 c.addr v :: rest →
      step s = .next (State.writeCsr { s with pending := rest } c v)) ∧
    (∀ (wd : Width) (a : BitVec 18), accessOk wd a = true → s.pending = .read wd a :: rest →
      step s = .next { s with pending := rest, observed := s.observed ++ [s.busRead wd a] }) ∧
    (∀ t : State, step s = .next t →
      (t.failed = true ∧ t.err = s.err ∧ t.errOp = s.errOp) ∨ (s.pending = .resetInput :: t.pending) ∨
      (s.pending = .write .w32 0x00008 0x00000001 :: t.pending))

/-- R362 (with R17): a command that raises leaves the state before it, with the three error fields written, ERR_OP being bits
[7:0] of the word. -/
def Obligations.ErrorsArePrecise : Prop :=
  ∀ (c : Word) (s t : State), s.failed = false → issue c s = .next t → t.failed = true →
    ∃ e : ErrCause, t = { s with failed := true, err := some e, errOp := c.extractLsb' 0 8 }

/-- R365: a decoded command that raises, raises one of the causes the table gives it. -/
def Obligations.ErrorCausesOfEachCommand : Prop :=
  ∀ (i : Instr) (s t : State), i.WellFormed → s.failed = false → exec i s = .next t → t.failed = true →
    ∃ e ∈ errorCauses i, t.err = some e

/-- R364 item 3: while a stream is open every command that needs IDLE raises E_STATE, whatever else is wrong with it, and
without one CO_UNIT and CO_END do. -/
def Obligations.StreamOpenCheck : Prop :=
  ∀ (i : Instr) (s : State), i.WellFormed →
    (needsIdle i = true → s.coState ≠ .idle →
      exec i s = .next { s with failed := true, err := some .state, errOp := i.opcode }) ∧
    (i = .coUnit ∨ i = .coEnd → s.coState = .idle →
      exec i s = .next { s with failed := true, err := some .state, errOp := i.opcode })

/-- R421 ("Every command terminates"), R360: every command answers a next state, from every state; none faults or refuses. -/
def Obligations.EveryCommandAnswersNext : Prop := ∀ (i : Instr) (s : State), ∃ t : State, exec i s = .next t

/-- R93, R94, R420: a step answers a next state unless the host's interaction is an access while BUSY = 1, or a bus error: a CSR
access that is not 32 bits wide and aligned, a buffer access that is not aligned (or, log 8, an unmapped access that runs past
0x0FFFF). Then it is refused by that name. -/
def Obligations.StepRefusesOnlyBusErrors : Prop :=
  ∀ (s : State) (wd : Width) (a : BitVec 18) (v : Word) (h : HostAction) (rest : List HostAction),
    h = .read wd a ∨ h = .write wd a v → s.pending = h :: rest →
    (s.busy = true → step s = .refused .accessWhileBusy) ∧
    (s.busy = false →
      ((a.toNat < 0x1000 ∧ ¬ (wd = .w32 ∧ a.toNat % 4 = 0)) ∨
       (0x10000 ≤ a.toNat ∧ ((wd = .w16 ∧ a.toNat % 2 ≠ 0) ∨ (wd = .w32 ∧ a.toNat % 4 ≠ 0))) ∨
       (0x1000 ≤ a.toNat ∧ a.toNat < 0x10000 ∧ 0x10000 < a.toNat + wd.bytes)) →
      step s = .refused .busError) ∧
    (s.busy = false →
      ((a.toNat < 0x1000 ∧ wd = .w32 ∧ a.toNat % 4 = 0) ∨
       (0x10000 ≤ a.toNat ∧ (wd = .w8 ∨ (wd = .w16 ∧ a.toNat % 2 = 0) ∨ (wd = .w32 ∧ a.toNat % 4 = 0))) ∨
       (0x1000 ≤ a.toNat ∧ a.toNat + wd.bytes ≤ 0x10000)) →
      ∃ t : State, step s = .next t)

/-! ## Reset and control (70_reset_and_hazards.md, 46_control.md) -/

/-- R400, R341, R70: after a reset every CSR reads the reset column, R[1] to R[4] are 0, HOLD and RES are empty and no buffer byte
has been written. It is so of State.reset, of the state RESET leaves from any state, FAILED or not, and of the state the reset input
leaves. -/
def Obligations.ResetState : Prop :=
  State.reset.IsReset ∧
  (∀ s : State, issue 0x00000001 s = exec .reset s ∧ ∃ t : State, exec .reset s = .next t ∧ t.IsReset) ∧
  (∀ (s : State) (rest : List HostAction), s.pending = .resetInput :: rest → ∃ t : State, step s = .next t ∧ t.IsReset)

/-- The model's own choice (log 3, log 14): a reset draws every buffer byte anew and leaves the host's queue and what it has
observed; everything else is State.reset's. -/
def Obligations.ResetKeepsTheHostSide : Prop :=
  (∀ s : State, exec .reset s =
    .next { State.reset with drawEpoch := s.drawEpoch + 1, pending := s.pending, observed := s.observed }) ∧
  (∀ (s : State) (rest : List HostAction), s.pending = .resetInput :: rest → step s =
    .next { State.reset with drawEpoch := s.drawEpoch + 1, pending := rest, observed := s.observed }) ∧
  (∀ (s : State) (a : Nat), Memory.lookup s.mem a = none → s.readByte a = Config.bufferDraw s.drawEpoch a)

/-- R340: NOP changes nothing. R342: OUT_ACK sets OCOUNT to 0 and changes nothing else. Their words run them in every state, FAILED
or not. -/
def Obligations.NopAndOutAckResults : Prop :=
  ∀ s : State,
    issue 0x00000000 s = exec .nop s ∧ exec .nop s = .next s ∧
    issue 0x00000002 s = exec .outAck s ∧ exec .outAck s = .next { s with ocount := 0 }

/-! ## The LFSR primitive (40_lfsr.md) -/

/-- R165, R160, bit by bit: LFSR_CLOCK shifts R[n] one place up and puts the XOR of the old feedback taps at index 0; nothing else
changes. The tap numbers {13, 16, 17, 18}, {20, 21}, {7, 20, 21, 22} and {11, 16} are R161's default of the open parameter LFSR_TAPS,
which the model takes (log 5, DESIGN CHOICE, unsafe for a part with other taps). While a stream is open it raises E_STATE. Its words
are those with SEL 1 to 4 and no reserved bit set. -/
def Obligations.LfsrClockResult : Prop :=
  (decode 0x00000110 = .ok (.lfsrClock .r1) ∧ decode 0x00000210 = .ok (.lfsrClock .r2) ∧
    decode 0x00000310 = .ok (.lfsrClock .r3) ∧ decode 0x00000410 = .ok (.lfsrClock .r4)) ∧
  (∀ c : Word, c.extractLsb' 0 8 = 0x10 →
    ((c.extractLsb' 8 4).toNat < 1 ∨ 4 < (c.extractLsb' 8 4).toNat ∨ c.extractLsb' 12 20 ≠ 0) → ∃ e, decode c = .error e) ∧
  ∀ s : State,
    (∀ n : LfsrId, s.coState ≠ .idle →
      exec (.lfsrClock n) s = .next { s with failed := true, err := some .state, errOp := 0x10 }) ∧
    (s.coState = .idle →
      (∃ r : BitVec 19, exec (.lfsrClock .r1) s = .next { s with lfsr := { s.lfsr with r1 := r } } ∧
        r.getLsbD 0 = (s.lfsr.r1.getLsbD 13 ^^ s.lfsr.r1.getLsbD 16 ^^ s.lfsr.r1.getLsbD 17 ^^ s.lfsr.r1.getLsbD 18) ∧
        ∀ k, 1 ≤ k → k < 19 → r.getLsbD k = s.lfsr.r1.getLsbD (k - 1)) ∧
      (∃ r : BitVec 22, exec (.lfsrClock .r2) s = .next { s with lfsr := { s.lfsr with r2 := r } } ∧
        r.getLsbD 0 = (s.lfsr.r2.getLsbD 20 ^^ s.lfsr.r2.getLsbD 21) ∧
        ∀ k, 1 ≤ k → k < 22 → r.getLsbD k = s.lfsr.r2.getLsbD (k - 1)) ∧
      (∃ r : BitVec 23, exec (.lfsrClock .r3) s = .next { s with lfsr := { s.lfsr with r3 := r } } ∧
        r.getLsbD 0 = (s.lfsr.r3.getLsbD 7 ^^ s.lfsr.r3.getLsbD 20 ^^ s.lfsr.r3.getLsbD 21 ^^ s.lfsr.r3.getLsbD 22) ∧
        ∀ k, 1 ≤ k → k < 23 → r.getLsbD k = s.lfsr.r3.getLsbD (k - 1)) ∧
      (∃ r : BitVec 17, exec (.lfsrClock .r4) s = .next { s with lfsr := { s.lfsr with r4 := r } } ∧
        r.getLsbD 0 = (s.lfsr.r4.getLsbD 11 ^^ s.lfsr.r4.getLsbD 16) ∧
        ∀ k, 1 ≤ k → k < 17 → r.getLsbD k = s.lfsr.r4.getLsbD (k - 1)))

/-- R166, R162: LFSR_OUT puts the majority of the output taps, the negated one inverted, XOR the top bit into RESULT and changes
nothing else. The output-tap sets {12, 14, 15}, {9, 13, 16} and {13, 16, 18} are R161's default of the open parameter LFSR_TAPS, which
the model takes (log 5, DESIGN CHOICE, unsafe for a part with other taps). E_STATE while a stream is open, and then E_INVALID_ARG for
a tap that is no output tap. Its words are those with SEL 1 to 3 and no reserved bit set. -/
def Obligations.LfsrOutResult : Prop :=
  (∀ c : Word, c.extractLsb' 0 8 = 0x11 →
    ((c.extractLsb' 8 4).toNat < 1 ∨ 3 < (c.extractLsb' 8 4).toNat ∨ c.extractLsb' 12 4 ≠ 0 ∨ c.extractLsb' 21 11 ≠ 0) →
    ∃ e, decode c = .error e) ∧
  ∀ (tap : BitVec 5) (s : State),
    (decode (BitVec.ofNat 32 (tap.toNat * 0x10000 + 0x111)) = .ok (.lfsrOut .r1 tap) ∧
      decode (BitVec.ofNat 32 (tap.toNat * 0x10000 + 0x211)) = .ok (.lfsrOut .r2 tap) ∧
      decode (BitVec.ofNat 32 (tap.toNat * 0x10000 + 0x311)) = .ok (.lfsrOut .r3 tap)) ∧
    (∀ n : LfsrId, n ≠ .r4 → s.coState ≠ .idle →
      exec (.lfsrOut n tap) s = .next { s with failed := true, err := some .state, errOp := 0x11 }) ∧
    (s.coState = .idle →
      (tap ≠ 12 → tap ≠ 14 → tap ≠ 15 →
        exec (.lfsrOut .r1 tap) s = .next { s with failed := true, err := some .invalidArg, errOp := 0x11 }) ∧
      (tap = 12 ∨ tap = 14 ∨ tap = 15 → exec (.lfsrOut .r1 tap) s = .next { s with result :=
        (maj (s.lfsr.r1.getLsbD 12 ^^ decide (tap = 12)) (s.lfsr.r1.getLsbD 14 ^^ decide (tap = 14))
          (s.lfsr.r1.getLsbD 15 ^^ decide (tap = 15)) ^^ s.lfsr.r1.getLsbD 18) }) ∧
      (tap ≠ 9 → tap ≠ 13 → tap ≠ 16 →
        exec (.lfsrOut .r2 tap) s = .next { s with failed := true, err := some .invalidArg, errOp := 0x11 }) ∧
      (tap = 9 ∨ tap = 13 ∨ tap = 16 → exec (.lfsrOut .r2 tap) s = .next { s with result :=
        (maj (s.lfsr.r2.getLsbD 9 ^^ decide (tap = 9)) (s.lfsr.r2.getLsbD 13 ^^ decide (tap = 13))
          (s.lfsr.r2.getLsbD 16 ^^ decide (tap = 16)) ^^ s.lfsr.r2.getLsbD 21) }) ∧
      (tap ≠ 13 → tap ≠ 16 → tap ≠ 18 →
        exec (.lfsrOut .r3 tap) s = .next { s with failed := true, err := some .invalidArg, errOp := 0x11 }) ∧
      (tap = 13 ∨ tap = 16 ∨ tap = 18 → exec (.lfsrOut .r3 tap) s = .next { s with result :=
        (maj (s.lfsr.r3.getLsbD 13 ^^ decide (tap = 13)) (s.lfsr.r3.getLsbD 16 ^^ decide (tap = 16))
          (s.lfsr.r3.getLsbD 18 ^^ decide (tap = 18)) ^^ s.lfsr.r3.getLsbD 22) }))

/-- R164 (the spec's own inference from R160 and R161, under R161's default taps: log 5, DESIGN CHOICE): the all-zero register is a
fixed point of clock_n, and clock_n is a bijection, for each of the four registers. -/
def Obligations.LfsrClockIsBijective : Prop :=
  (∀ n : LfsrId, Lfsrs.clock ⟨0, 0, 0, 0⟩ n = ⟨0, 0, 0, 0⟩) ∧
  (∀ n : LfsrId, Function.Bijective fun l : Lfsrs => l.clock n)

/-! ## The stream cipher (41_stream_cipher.md) -/

/-- R186: SC_LOAD. -/
def Obligations.ScLoadResult : Prop :=
  decode 0x00000020 = .ok .scLoad ∧ ∀ s : State,
    (s.coState ≠ .idle → exec .scLoad s = .next { s with failed := true, err := some .state, errOp := 0x20 }) ∧
    (s.coState = .idle → exec .scLoad s = .next { s with
      lfsr := (loadLfsrs ((s.scKeyHi.setWidth 64 <<< 32) ||| s.scKeyLo.setWidth 64) s.scIv).sync
      scState := .keyLoaded, scCnt := 0 })

/-- R181: `load` is 86 rounds from zeroed registers, each clocking all four and then XORing the next key or IV bit, lowest index
first, into bit 0 of every register. R182: `sync` forces one bit of each register to 1 and changes no other. -/
def Obligations.LoadingSequence : Prop :=
  (∀ (k : BitVec 64) (iv : BitVec 22), ∃ f : Nat → Lfsrs, f 0 = ⟨0, 0, 0, 0⟩ ∧ f 86 = loadLfsrs k iv ∧
    ∀ i, i < 86 → ∀ b : Bool, b = (if i < 64 then k.getLsbD i else iv.getLsbD (i - 64)) →
      f (i + 1) =
        { r1 := ((f i).clock .r1).r1 ^^^ (BitVec.ofBool b).setWidth 19
          r2 := ((f i).clock .r2).r2 ^^^ (BitVec.ofBool b).setWidth 22
          r3 := ((f i).clock .r3).r3 ^^^ (BitVec.ofBool b).setWidth 23
          r4 := ((f i).clock .r4).r4 ^^^ (BitVec.ofBool b).setWidth 17 }) ∧
  (∀ (l : Lfsrs) (j : Nat),
    (j < 19 → l.sync.r1.getLsbD j = (decide (j = 15) || l.r1.getLsbD j)) ∧
    (j < 22 → l.sync.r2.getLsbD j = (decide (j = 16) || l.r2.getLsbD j)) ∧
    (j < 23 → l.sync.r3.getLsbD j = (decide (j = 18) || l.r3.getLsbD j)) ∧
    (j < 17 → l.sync.r4.getLsbD j = (decide (j = 10) || l.r4.getLsbD j)))

/-- R187: SC_WARMUP makes 99 steps and discards their bits; it raises E_STATE while a stream is open or unless KEYLOADED. -/
def Obligations.ScWarmupResult : Prop :=
  decode 0x00000021 = .ok .scWarmup ∧ ∀ s : State,
    (s.coState ≠ .idle ∨ s.scState ≠ .keyLoaded →
      exec .scWarmup s = .next { s with failed := true, err := some .state, errOp := 0x21 }) ∧
    (s.coState = .idle → s.scState = .keyLoaded → exec .scWarmup s = .next { s with
      lfsr := (fun l : Lfsrs => l.step.1)^[99] s.lfsr, scState := .running, scCnt := 0 })

/-- R188: SC_STEP makes one step, its bit to RESULT, and SC_CNT advances mod 2^32; E_STATE while a stream is open or unless
RUNNING. -/
def Obligations.ScStepResult : Prop :=
  decode 0x00000022 = .ok .scStep ∧ ∀ s : State,
    (s.coState ≠ .idle ∨ s.scState ≠ .running →
      exec .scStep s = .next { s with failed := true, err := some .state, errOp := 0x22 }) ∧
    (s.coState = .idle → s.scState = .running → exec .scStep s = .next { s with
      lfsr := s.lfsr.step.1, result := s.lfsr.step.2, scCnt := s.scCnt + 1 })

/-- R183, R184, R185: one step. The control bits are R[4]'s before the step; R[4] always clocks, R[1], R[2] and R[3] exactly when
their control bit equals the majority; the output bit is the XOR of the three registers' output bits after the clock, with negated
taps 14, 16 and 13. The output-tap sets of the last clause are R161's default of the open parameter LFSR_TAPS, which the model takes
(log 5, DESIGN CHOICE, unsafe for a part with other taps). -/
def Obligations.MajorityClockStep : Prop :=
  ∀ (l : Lfsrs) (c3 c7 c10 m : Bool), c3 = l.r4.getLsbD 3 → c7 = l.r4.getLsbD 7 → c10 = l.r4.getLsbD 10 →
    m = ((c3 && c7) || (c3 && c10) || (c7 && c10)) →
    l.step.1.r1 = (if c10 = m then (l.clock .r1).r1 else l.r1) ∧
    l.step.1.r2 = (if c3 = m then (l.clock .r2).r2 else l.r2) ∧
    l.step.1.r3 = (if c7 = m then (l.clock .r3).r3 else l.r3) ∧
    l.step.1.r4 = (l.clock .r4).r4 ∧
    l.step.2 =
      ((maj (l.step.1.r1.getLsbD 12) (!l.step.1.r1.getLsbD 14) (l.step.1.r1.getLsbD 15) ^^ l.step.1.r1.getLsbD 18) ^^
       (maj (l.step.1.r2.getLsbD 9) (l.step.1.r2.getLsbD 13) (!l.step.1.r2.getLsbD 16) ^^ l.step.1.r2.getLsbD 21) ^^
       (maj (!l.step.1.r3.getLsbD 13) (l.step.1.r3.getLsbD 16) (l.step.1.r3.getLsbD 18) ^^ l.step.1.r3.getLsbD 22))

/-- R190: bit 7 - j of output byte i is that bit of the data XOR the output of step 8i + j + 1, and the engine makes exactly
8 * len(data) steps, each counted in SC_CNT. That bit 7 comes first is the default MSB_FIRST of the open parameter KS_BIT_ORDER (R190,
D11, U17), which the model takes (log 5, DESIGN CHOICE, unsafe for a part with the other order). -/
def Obligations.KeystreamBits : Prop :=
  ∀ (l : Lfsrs) (d : List Byte),
    (ksXor l d).2.length = d.length ∧
    (ksXor l d).1 = (fun x : Lfsrs => x.step.1)^[8 * d.length] l ∧
    (∀ i j, i < d.length → j < 8 →
      (byteAt (ksXor l d).2 i).getLsbD (7 - j) =
        ((byteAt d i).getLsbD (7 - j) ^^ ((fun x : Lfsrs => x.step.1)^[8 * i + j] l).step.2)) ∧
    ∀ s : State, s.lfsr = l → s.ksXor d =
      ({ s with lfsr := (ksXor l d).1, scCnt := s.scCnt + BitVec.ofNat 32 (8 * d.length) }, (ksXor l d).2)

/-- R191: the keystream is continuous over any split of the data. R192 (the spec's own inference from R190): the cipher is its own
inverse from the same state. -/
def Obligations.KeystreamContinuousAndSymmetric : Prop :=
  ∀ (l : Lfsrs) (d e : List Byte),
    ksXor l (d ++ e) = ((ksXor (ksXor l d).1 e).1, (ksXor l d).2 ++ (ksXor (ksXor l d).1 e).2) ∧
    ksXor l (ksXor l d).2 = ((ksXor l d).1, d)

/-- 95_test_vectors.md, the derived vectors of the engines' functions: V31 to V35 (stream cipher: registers, steps and keystream), V40 to
V46 (block cipher, as words), the bytes of V71's two ECB units, and V50 and V51 (PCBC, as bytes). They hold with the defaults of
LFSR_TAPS, KS_BIT_ORDER and BLOCK_WORD_ORDER (big-endian, R217), which the model takes (log 5, DESIGN CHOICE). The vectors of whole
commands (V36 to V39, V47 to V49a, V52 to V56) are not here. -/
def Obligations.CipherVectors : Prop :=
  -- V31, V32, V32a
  (loadLfsrs 0 0).sync = ⟨0x08000, 0x010000, 0x040000, 0x00400⟩ ∧
  (fun l : Lfsrs => l.step.1)^[99] ⟨0x08000, 0x010000, 0x040000, 0x00400⟩ = ⟨0x1A746, 0x004400, 0x021F49, 0x0A4A3⟩ ∧
  Lfsrs.step ⟨0x1A746, 0x004400, 0x021F49, 0x0A4A3⟩ = (⟨0x34E8C, 0x004400, 0x043E92, 0x14946⟩, false) ∧
  -- V33, V33a, V33b, V33c
  (loadLfsrs 0x0123456789ABCDEF 0x0ABCDE).sync = ⟨0x7F539, 0x21637F, 0x0EB08C, 0x0A4CB⟩ ∧
  (fun l : Lfsrs => l.step.1)^[99] ⟨0x7F539, 0x21637F, 0x0EB08C, 0x0A4CB⟩ = ⟨0x7F469, 0x3382DD, 0x765D99, 0x0AFAF⟩ ∧
  (ksXor ⟨0x7F469, 0x3382DD, 0x765D99, 0x0AFAF⟩ [0, 0, 0, 0, 0, 0, 0, 0]).2 = [0x8b, 0xa0, 0xfb, 0x71, 0x5b, 0x0f, 0x51, 0x65] ∧
  (ksXor ⟨0x7F469, 0x3382DD, 0x765D99, 0x0AFAF⟩
      [0x48, 0x65, 0x6c, 0x6c, 0x6f, 0x2c, 0x20, 0x77, 0x6f, 0x72, 0x6c, 0x64, 0x21]).2 =
    [0xc3, 0xc5, 0x97, 0x1d, 0x34, 0x23, 0x71, 0x12, 0x34, 0x0c, 0x6e, 0xd7, 0x99] ∧
  -- V34, V34a, V34b, V34c
  keystreamNumber ⟨0x1A746, 0x004400, 0x021F49, 0x0A4A3⟩ 16 = 0b0001010110001101 ∧
  keystreamNumber ⟨0x1A746, 0x004400, 0x021F49, 0x0A4A3⟩ 228 = 0x158df7d240d1c4b3c9e0a5dca819774d88746783c8f420763b4724180 ∧
  (ksXor ⟨0x1A746, 0x004400, 0x021F49, 0x0A4A3⟩ (List.replicate 29 0)).2 =
    [0x15, 0x8d, 0xf7, 0xd2, 0x40, 0xd1, 0xc4, 0xb3, 0xc9, 0xe0, 0xa5, 0xdc, 0xa8, 0x19, 0x77, 0x4d] ++
      [0x88, 0x74, 0x67, 0x83, 0xc8, 0xf4, 0x20, 0x76, 0x3b, 0x47, 0x24, 0x18, 0x0c] ∧
  ksXor ⟨0x1A746, 0x004400, 0x021F49, 0x0A4A3⟩ [0x61, 0x62, 0x63] =
    (⟨0x61382, 0x006600, 0x12ABD8, 0x0600A⟩, [0x74, 0xef, 0x94]) ∧
  -- V35: four neighbours of Z, their first bytes, the first bit at which they differ from Z's first 228 bits, and how many do
  (ksXor ((fun l : Lfsrs => l.step.1)^[99] (loadLfsrs 1 0).sync) [0, 0, 0, 0]).2 = [0x03, 0x35, 0x05, 0x2c] ∧
  (∀ x : Nat, x = (keystreamNumber ((fun l : Lfsrs => l.step.1)^[99] (loadLfsrs 1 0).sync) 228 ^^^ 0x158df7d240d1c4b3c9e0a5dca819774d88746783c8f420763b4724180) →
    x / 2 ^ (227 - 3) = 1 ∧ (List.range 228).countP (fun k => x.testBit k) = 123) ∧
  (ksXor ((fun l : Lfsrs => l.step.1)^[99] (loadLfsrs 0x8000000000000000 0).sync) [0, 0, 0, 0]).2 = [0xdf, 0x35, 0xa8, 0x10] ∧
  (∀ x : Nat, x = (keystreamNumber ((fun l : Lfsrs => l.step.1)^[99] (loadLfsrs 0x8000000000000000 0).sync) 228 ^^^ 0x158df7d240d1c4b3c9e0a5dca819774d88746783c8f420763b4724180) →
    x / 2 ^ (227 - 0) = 1 ∧ (List.range 228).countP (fun k => x.testBit k) = 113) ∧
  (ksXor ((fun l : Lfsrs => l.step.1)^[99] (loadLfsrs 0 1).sync) [0, 0, 0, 0]).2 = [0x68, 0x00, 0x06, 0x6f] ∧
  (∀ x : Nat, x = (keystreamNumber ((fun l : Lfsrs => l.step.1)^[99] (loadLfsrs 0 1).sync) 228 ^^^ 0x158df7d240d1c4b3c9e0a5dca819774d88746783c8f420763b4724180) →
    x / 2 ^ (227 - 1) = 1 ∧ (List.range 228).countP (fun k => x.testBit k) = 128) ∧
  (ksXor ((fun l : Lfsrs => l.step.1)^[99] (loadLfsrs 0 0x200000).sync) [0, 0, 0, 0]).2 = [0x01, 0x40, 0x49, 0xde] ∧
  (∀ x : Nat, x = (keystreamNumber ((fun l : Lfsrs => l.step.1)^[99] (loadLfsrs 0 0x200000).sync) 228 ^^^ 0x158df7d240d1c4b3c9e0a5dca819774d88746783c8f420763b4724180) →
    x / 2 ^ (227 - 3) = 1 ∧ (List.range 228).countP (fun k => x.testBit k) = 109) ∧
  -- V40 to V45c, the words v0:v1
  (∀ x ∈ blockVectors, encryptBlock x.1 x.2.1 x.2.2.1 = x.2.2.2) ∧
  -- V46
  decryptBlock ⟨0x00010203, 0x04050607, 0x08090A0B, 0x0C0D0E0F⟩ 64 ⟨0xFCE22584, 0x245503EF⟩ =
    ⟨0x41424344, 0x45464748⟩ ∧
  -- the bytes of V71's two units, and back
  ecbEnc ⟨0x00010203, 0x04050607, 0x08090A0B, 0x0C0D0E0F⟩ 64 [0x41, 0x42, 0x43, 0x44, 0x45, 0x46, 0x47, 0x48] =
    [0xfc, 0xe2, 0x25, 0x84, 0x24, 0x55, 0x03, 0xef] ∧
  ecbEnc ⟨0x00010203, 0x04050607, 0x08090A0B, 0x0C0D0E0F⟩ 64
      (addPadding [0x49, 0x4a, 0x4b, 0x4c, 0x4d, 0x4e, 0x4f, 0x50]) =
    [0xee, 0xf7, 0xe6, 0xac, 0x46, 0xbe, 0x11, 0x76] ++ [0x45, 0xdb, 0x07, 0x21, 0x98, 0x44, 0xc1, 0xf0] ∧
  ecbDec ⟨0x00010203, 0x04050607, 0x08090A0B, 0x0C0D0E0F⟩ 64 [0xfc, 0xe2, 0x25, 0x84, 0x24, 0x55, 0x03, 0xef] =
    [0x41, 0x42, 0x43, 0x44, 0x45, 0x46, 0x47, 0x48] ∧
  -- V50 and V51: the bytes in PCBC from the chaining IV 00 01 .. 07, and the working block left
  pcbcEnc ⟨0x00010203, 0x04050607, 0x08090A0B, 0x0C0D0E0F⟩ 64 ⟨0x00010203, 0x04050607⟩
      ([0x41, 0x42, 0x43, 0x44, 0x45, 0x46, 0x47, 0x48] ++ [0x49, 0x4a, 0x4b, 0x4c, 0x4d, 0x4e, 0x4f, 0x50] ++
        [0x51, 0x52, 0x53, 0x54, 0x55, 0x56, 0x57, 0x58]) =
    (⟨0xB7E764A8, 0x36B7B8CB⟩, [0x10, 0x5f, 0x28, 0xcb, 0xdd, 0xaf, 0xf3, 0xfd] ++
      [0xa6, 0x35, 0x86, 0x5a, 0xf4, 0xb2, 0x3b, 0x78] ++ [0xe6, 0xb5, 0x37, 0xfc, 0x63, 0xe1, 0xef, 0x93]) ∧
  pcbcDec ⟨0x00010203, 0x04050607, 0x08090A0B, 0x0C0D0E0F⟩ 64 ⟨0x00010203, 0x04050607⟩
      ([0x10, 0x5f, 0x28, 0xcb, 0xdd, 0xaf, 0xf3, 0xfd] ++
        [0xa6, 0x35, 0x86, 0x5a, 0xf4, 0xb2, 0x3b, 0x78] ++ [0xe6, 0xb5, 0x37, 0xfc, 0x63, 0xe1, 0xef, 0x93]) =
    (⟨0xB7E764A8, 0x36B7B8CB⟩, [0x41, 0x42, 0x43, 0x44, 0x45, 0x46, 0x47, 0x48] ++
      [0x49, 0x4a, 0x4b, 0x4c, 0x4d, 0x4e, 0x4f, 0x50] ++ [0x51, 0x52, 0x53, 0x54, 0x55, 0x56, 0x57, 0x58])

/-! ## The block cipher and the chaining mode (42_block_cipher.md, 43_chaining.md) -/

/-- R211: BC_SETKEY. -/
def Obligations.BcSetkeyResult : Prop :=
  decode 0x00000030 = .ok .bcSetkey ∧ ∀ s : State,
    (s.coState ≠ .idle → exec .bcSetkey s = .next { s with failed := true, err := some .state, errOp := 0x30 }) ∧
    (s.coState = .idle → s.bcRounds.toNat < 32 →
      exec .bcSetkey s = .next { s with failed := true, err := some .invalidArg, errOp := 0x30 }) ∧
    (s.coState = .idle → 32 ≤ s.bcRounds.toNat → exec .bcSetkey s = .next { s with bcReady := true })

/-- R214, R215: BC_ENC and BC_DEC write DATA0:DATA1 and nothing else; E_STATE while a stream is open or unless BC_READY. -/
def Obligations.BcEncAndDecResults : Prop :=
  decode 0x00000031 = .ok .bcEnc ∧ decode 0x00000032 = .ok .bcDec ∧ ∀ s : State,
    (s.coState ≠ .idle ∨ s.bcReady = false →
      exec .bcEnc s = .next { s with failed := true, err := some .state, errOp := 0x31 } ∧
      exec .bcDec s = .next { s with failed := true, err := some .state, errOp := 0x32 }) ∧
    (s.coState = .idle → s.bcReady = true →
      exec .bcEnc s = .next { s with data := encryptBlock s.bcKey s.bcRounds.toNat s.data } ∧
      exec .bcDec s = .next { s with data := decryptBlock s.bcKey s.bcRounds.toNat s.data })

/-- R216 (the spec's own inference from R210 and R212): encrypt and decrypt of a block under the same key are mutually inverse, for every key and every round count. -/
def Obligations.BlockCipherInverse : Prop :=
  ∀ (key : KeyWords) (nr : Nat) (x : Block),
    decryptBlock key nr (encryptBlock key nr x) = x ∧ encryptBlock key nr (decryptBlock key nr x) = x

/-- R218, R217: over an aligned sequence, each output block is the block function of its own input block. -/
def Obligations.EcbBlocksAreIndependent : Prop :=
  ∀ (key : KeyWords) (nr : Nat) (d : List Byte), d.length % 8 = 0 →
    (ecbEnc key nr d).length = d.length ∧ (ecbDec key nr d).length = d.length ∧
    ∀ j, j < d.length / 8 →
      ((ecbEnc key nr d).drop (8 * j)).take 8 = (encryptBlock key nr (blockOfBytes ((d.drop (8 * j)).take 8))).bytes ∧
      ((ecbDec key nr d).drop (8 * j)).take 8 = (decryptBlock key nr (blockOfBytes ((d.drop (8 * j)).take 8))).bytes

/-- R318: whatever order the lanes finish the blocks in, as long as every block is computed, the output is that of sequential
processing. -/
def Obligations.LaneOrderIsUnobservable : Prop :=
  ∀ (f : Block → Block) (d : List Byte) (order : List Nat), (∀ j, j < d.length / 8 → j ∈ order) →
    (mapBlocksInOrder f d order).flatten = mapBlocks f (d.length / 8) d

/-- R242: CM_SETIV. -/
def Obligations.CmSetivResult : Prop :=
  decode 0x00000040 = .ok .cmSetiv ∧ ∀ s : State,
    (s.coState ≠ .idle → exec .cmSetiv s = .next { s with failed := true, err := some .state, errOp := 0x40 }) ∧
    (s.coState = .idle → exec .cmSetiv s = .next { s with w := s.cmIv, cmReady := true })

/-- R243 with R240, R244 with R241: CM_ENC and CM_DEC. -/
def Obligations.CmEncAndDecResults : Prop :=
  decode 0x00000041 = .ok .cmEnc ∧ decode 0x00000042 = .ok .cmDec ∧ ∀ s : State,
    (s.coState ≠ .idle ∨ s.bcReady = false ∨ s.cmReady = false →
      exec .cmEnc s = .next { s with failed := true, err := some .state, errOp := 0x41 } ∧
      exec .cmDec s = .next { s with failed := true, err := some .state, errOp := 0x42 }) ∧
    (s.coState = .idle → s.bcReady = true → s.cmReady = true →
      (∀ c : Block,
        c = encryptBlock s.bcKey s.bcRounds.toNat ⟨s.w.v0 ^^^ s.data.v0, s.w.v1 ^^^ s.data.v1⟩ →
        exec .cmEnc s = .next { s with data := c, w := ⟨c.v0 ^^^ s.data.v0, c.v1 ^^^ s.data.v1⟩ }) ∧
      (∀ p q : Block, q = decryptBlock s.bcKey s.bcRounds.toNat s.data → p = ⟨q.v0 ^^^ s.w.v0, q.v1 ^^^ s.w.v1⟩ →
        exec .cmDec s = .next { s with data := p, w := ⟨p.v0 ^^^ s.data.v0, p.v1 ^^^ s.data.v1⟩ }))

/-- R247 (the spec's own inference from R240, R241 and R216): two sessions from the same W, key and rounds, one encrypting p and the other decrypting the result: the second returns
p, and both end with the same W. -/
def Obligations.PcbcRoundTrip : Prop :=
  ∀ (key : KeyWords) (nr : Nat) (w : Block) (p : List Byte), p.length % 8 = 0 →
    pcbcDec key nr w (pcbcEnc key nr w p).2 = ((pcbcEnc key nr w p).1, p)

/-- R301 (ECB and PCBC; the spec's own inference): whatever block-aligned units the payload's head is cut into, the concatenated encryption with the final
unit padded is the encryption of the padded payload, and in PCBC the same W is left. -/
def Obligations.BlockSegmentation : Prop :=
  ∀ (key : KeyWords) (nr : Nat) (w : Block) (units : List (List Byte)) (last : List Byte),
    (∀ u ∈ units, u.length % 8 = 0) →
    (units.map (ecbEnc key nr)).flatten ++ ecbEnc key nr (addPadding last) =
      ecbEnc key nr (addPadding (units.flatten ++ last)) ∧
    ∀ r : Block × List Byte,
      r = units.foldl (fun x u => ((pcbcEnc key nr x.1 u).1, x.2 ++ (pcbcEnc key nr x.1 u).2)) (w, []) →
      pcbcEnc key nr w (addPadding (units.flatten ++ last)) =
        ((pcbcEnc key nr r.1 (addPadding last)).1, r.2 ++ (pcbcEnc key nr r.1 (addPadding last)).2)

/-! ## The digest (44_digest.md) -/

/-- R267: DG_INIT. -/
def Obligations.DgInitResult : Prop :=
  decode 0x00000050 = .ok .dgInit ∧ ∀ s : State,
    (s.coState ≠ .idle → exec .dgInit s = .next { s with failed := true, err := some .state, errOp := 0x50 }) ∧
    (s.coState = .idle → exec .dgInit s = .next { s with
      dgH := ⟨0x67452301, 0xEFCDAB89, 0x98BADCFE, 0x10325476⟩, dgCnt := 0, dgRes := [], dgState := .absorbing })

/-- R268, R269: DG_ABSORB and DG_FINAL absorb IBUF[0..LEN); E_STATE unless ABSORBING or while a stream is open, then E_INVALID_ARG
if LEN > 65536. -/
def Obligations.DgAbsorbAndFinalResults : Prop :=
  decode 0x00000051 = .ok .dgAbsorb ∧ decode 0x00000052 = .ok .dgFinal ∧ ∀ s : State,
    (s.coState ≠ .idle ∨ s.dgState ≠ .absorbing →
      exec .dgAbsorb s = .next { s with failed := true, err := some .state, errOp := 0x51 } ∧
      exec .dgFinal s = .next { s with failed := true, err := some .state, errOp := 0x52 }) ∧
    (s.coState = .idle → s.dgState = .absorbing → 65536 < s.len.toNat →
      exec .dgAbsorb s = .next { s with failed := true, err := some .invalidArg, errOp := 0x51 } ∧
      exec .dgFinal s = .next { s with failed := true, err := some .invalidArg, errOp := 0x52 }) ∧
    (s.coState = .idle → s.dgState = .absorbing → s.len.toNat ≤ 65536 →
      exec .dgAbsorb s = .next (s.absorb (s.readBytes 0x10000 s.len.toNat) false) ∧
      exec .dgFinal s = .next (s.absorb (s.readBytes 0x10000 s.len.toNat) true))

/-- R262: what absorb does to H, RES, DG_CNT and DG_STATE. The buffer (RES ++ data, and when final 0x80, the fewest zeros that
make the length 56 mod 64, and the bit length) splits into 64-byte blocks, compressed in order, and a shorter rest that is the new
RES; nothing else changes. -/
def Obligations.AbsorbByBlocks : Prop :=
  ∀ (s : State) (data : List Byte),
    (∃ (blocks : List (List Byte)) (rest : List Byte), (∀ b ∈ blocks, b.length = 64) ∧ rest.length < 64 ∧
      s.dgRes ++ data = blocks.flatten ++ rest ∧
      s.absorb data false = { s with
        dgH := blocks.foldl compress s.dgH, dgRes := rest, dgCnt := s.dgCnt + BitVec.ofNat 64 data.length }) ∧
    (∃ (blocks : List (List Byte)) (z : Nat), (∀ b ∈ blocks, b.length = 64) ∧ z < 64 ∧
      (s.dgRes.length + data.length + 1 + z) % 64 = 56 ∧
      s.dgRes ++ data ++ [0x80] ++ List.replicate z 0 ++ le64Bytes (8 * (s.dgCnt + BitVec.ofNat 64 data.length)) =
        blocks.flatten ∧
      s.absorb data true = { s with
        dgH := blocks.foldl compress s.dgH, dgRes := [], dgCnt := s.dgCnt + BitVec.ofNat 64 data.length,
        dgState := .done })

/-- R271 (the spec's own inference from R262): any non-final absorbs followed by a final one leave the state one final absorb of the concatenation leaves. -/
def Obligations.DigestSegmentation : Prop :=
  ∀ (s : State) (parts : List (List Byte)) (last : List Byte),
    (parts.foldl (fun t d => t.absorb d false) s).absorb last true = s.absorb (parts.flatten ++ last) true

/-- 95_test_vectors.md S5 (the source's own two digests), with the rendering of R266 and R114: the empty input and "abc". -/
def Obligations.DigestVectors : Prop :=
  wireDigest (State.absorb { State.reset with dgH := digestInit, dgState := .absorbing } [] true).dgH =
    ['d', '4', '1', 'd', '8', 'c', 'd', '9', '8', 'f', '0', '0', 'b', '2', '0', '4',
     'e', '9', '8', '0', '0', '9', '9', '8', 'e', 'c', 'f', '8', '4', '2', '7', 'e'] ∧
  wireDigest (State.absorb { State.reset with dgH := digestInit, dgState := .absorbing } [0x61, 0x62, 0x63] true).dgH =
    ['9', '0', '0', '1', '5', '0', '9', '8', '3', 'c', 'd', '2', '4', 'f', 'b', '0',
     'd', '6', '9', '6', '3', 'f', '7', 'd', '2', '8', 'e', '1', '7', 'f', '7', '2']

/-! ## The coordinator (45_coordinator.md) -/

/-- R297, and R302 (the spec's own inference from R297 and R298): padding reaches the next multiple of 8 by 1 to 8 bytes, each of value the number added, and removing it gives the
input back. -/
def Obligations.PaddingRoundTrip : Prop :=
  ∀ b : List Byte, removePadding (addPadding b) = .ok b ∧
    ∃ p, 1 ≤ p ∧ p ≤ 8 ∧ (b.length + p) % 8 = 0 ∧ addPadding b = b ++ List.replicate p (BitVec.ofNat 8 p)

/-- R298: only the last byte is checked; it must exist and lie in 1..8. -/
def Obligations.RemovePaddingChecks : Prop :=
  removePadding [] = .error .padding ∧
  ∀ (t : List Byte) (p : Byte),
    (p.toNat < 1 ∨ 8 < p.toNat → removePadding (t ++ [p]) = .error .padding) ∧
    (1 ≤ p.toNat → p.toNat ≤ 8 → removePadding (t ++ [p]) = .ok (t.take (t.length + 1 - p.toNat)))

/-- R299 (the two equalities the spec marks as its own inference): for an aligned unit, enciphering it and then the padding-only unit gives the bytes, and in PCBC the W, of enciphering
the padded unit; and absorbing it non-final and then the empty final unit leaves the state absorbing it final leaves. -/
def Obligations.FullFinalUnit : Prop :=
  (∀ (s : State) (u : List Byte), s.mode = .ecb ∨ s.mode = .pcbc → s.dir = .enc → u.length % 8 = 0 →
    s.cipherUnit (addPadding u) =
      (((s.cipherUnit u).1.cipherUnit [8, 8, 8, 8, 8, 8, 8, 8]).1,
       (s.cipherUnit u).2 ++ ((s.cipherUnit u).1.cipherUnit [8, 8, 8, 8, 8, 8, 8, 8]).2)) ∧
  (∀ (s : State) (u : List Byte), (s.absorb u false).absorb [] true = s.absorb u true)

/-- R291: CO_OPEN: its word, its checks in order, then the latched options and state OPEN. -/
def Obligations.CoOpenResult : Prop :=
  ∀ (m : Mode) (d : Dir) (p : Bool) (s : State) (ready badArg : Prop),
    (ready ↔ ((m = .stream → s.scState = .running) ∧ (m = .ecb → s.bcReady = true) ∧
      (m = .pcbc → s.bcReady = true ∧ s.cmReady = true) ∧ (m = .digest → s.dgState = .absorbing))) →
    (badArg ↔ ((m = .stream ∧ p = true) ∨ (m = .digest ∧ (d = .dec ∨ p = true)) ∨
      s.chunkSize.toNat < 1 ∨ 65536 < s.chunkSize.toNat ∨ ((m = .ecb ∨ m = .pcbc) ∧ s.chunkSize.toNat % 8 ≠ 0))) →
    decode (BitVec.ofNat 32 ((if p then 0x2000 else 0) + (match d with | .enc => 0 | .dec => 0x1000) +
        (match m with | .stream => 0 | .ecb => 0x100 | .pcbc => 0x200 | .digest => 0x300) + 0x60)) = .ok (.coOpen m d p) ∧
    (s.coState ≠ .idle ∨ ¬ ready →
      exec (.coOpen m d p) s = .next { s with failed := true, err := some .state, errOp := 0x60 }) ∧
    (s.coState = .idle → ready → badArg →
      exec (.coOpen m d p) s = .next { s with failed := true, err := some .invalidArg, errOp := 0x60 }) ∧
    (s.coState = .idle → ready → ¬ badArg →
      exec (.coOpen m d p) s = .next { s with mode := m, dir := d, pad := p, hold := [], coState := .opened })

/-- R292: CO_UNIT's checks, and the first unit of a stream, which is held with nothing processed or emitted. -/
def Obligations.CoUnitChecksAndFirstUnit : Prop :=
  ∀ s : State,
    (s.coState = .idle ∨ s.ocount ≠ 0 →
      exec .coUnit s = .next { s with failed := true, err := some .state, errOp := 0x61 }) ∧
    (s.coState ≠ .idle → s.ocount = 0 → s.chunkSize.toNat < s.len.toNat →
      exec .coUnit s = .next { s with failed := true, err := some .invalidArg, errOp := 0x61 }) ∧
    (s.coState = .opened → s.ocount = 0 → s.len.toNat ≤ s.chunkSize.toNat →
      exec .coUnit s = .next { s with hold := s.readBytes 0x10000 s.len.toNat, coState := .holding })

/-- R292, R295: CO_UNIT with a unit held: the held unit is processed as non-final, its result emitted to OBUF0 (not in DIGEST mode)
and the new unit, read from IBUF, held. -/
def Obligations.CoUnitProcessesTheHeldUnit : Prop :=
  ∀ (s : State) (new : List Byte), s.coState = .holding → s.ocount = 0 → s.len.toNat ≤ s.chunkSize.toNat →
    new = s.readBytes 0x10000 s.len.toNat →
    (s.mode = .stream → exec .coUnit s = .next { s with
      lfsr := (ksXor s.lfsr s.hold).1, scCnt := s.scCnt + BitVec.ofNat 32 (8 * s.hold.length),
      mem := Memory.storeBytes s.mem 0x20000 (ksXor s.lfsr s.hold).2, outLen0 := BitVec.ofNat 17 s.hold.length,
      ocount := 1, hold := new }) ∧
    (s.mode = .digest → exec .coUnit s = .next { s.absorb s.hold false with hold := new }) ∧
    (s.mode = .ecb ∨ s.mode = .pcbc → s.hold.length % 8 ≠ 0 →
      exec .coUnit s = .next { s with failed := true, err := some .invalidArg, errOp := 0x61 }) ∧
    (s.mode = .ecb → s.hold.length % 8 = 0 → ∀ out : List Byte,
      out = (if s.dir = .enc then ecbEnc s.bcKey s.bcRounds.toNat s.hold else ecbDec s.bcKey s.bcRounds.toNat s.hold) →
      exec .coUnit s = .next { s with
        mem := Memory.storeBytes s.mem 0x20000 out, outLen0 := BitVec.ofNat 17 s.hold.length, ocount := 1, hold := new }) ∧
    (s.mode = .pcbc → s.hold.length % 8 = 0 → ∀ r : Block × List Byte,
      r = (if s.dir = .enc then pcbcEnc s.bcKey s.bcRounds.toNat s.w s.hold
        else pcbcDec s.bcKey s.bcRounds.toNat s.w s.hold) →
      exec .coUnit s = .next { s with
        w := r.1, mem := Memory.storeBytes s.mem 0x20000 r.2, outLen0 := BitVec.ofNat 17 s.hold.length, ocount := 1, hold := new })

/-- R294, R296, R300: CO_END's checks, and its STREAM and DIGEST results; u is HOLD, or the empty unit when none was delivered. -/
def Obligations.CoEndChecksStreamAndDigest : Prop :=
  ∀ (s : State) (u : List Byte),
    (s.coState = .idle ∨ s.ocount ≠ 0 →
      exec .coEnd s = .next { s with failed := true, err := some .state, errOp := 0x62 }) ∧
    ((s.coState = .holding ∧ u = s.hold) ∨ (s.coState = .opened ∧ u = []) → s.ocount = 0 →
      (s.mode = .stream → exec .coEnd s = .next { s with
        lfsr := (ksXor s.lfsr u).1, scCnt := s.scCnt + BitVec.ofNat 32 (8 * u.length),
        mem := Memory.storeBytes s.mem 0x20000 (ksXor s.lfsr u).2, outLen0 := BitVec.ofNat 17 u.length,
        ocount := 1, hold := [], coState := .idle }) ∧
      (s.mode = .digest → ∀ t : State,
        t = (if u.length = s.chunkSize.toNat then (s.absorb u false).absorb [] true else s.absorb u true) →
        exec .coEnd s = .next { t with
          mem := Memory.storeBytes s.mem 0x20000
            (le32Bytes t.dgH.a ++ le32Bytes t.dgH.b ++ le32Bytes t.dgH.c ++ le32Bytes t.dgH.d),
          outLen0 := 16, ocount := 1, hold := [], coState := .idle }))

/-- R294, R296, R299, R300: CO_END of an encryption in ECB or PCBC. `enc w v` is the mode's encryption of v from working block w. -/
def Obligations.CoEndEncrypts : Prop :=
  ∀ (s : State) (u : List Byte) (enc : Block → List Byte → Block × List Byte),
    (s.coState = .holding ∧ u = s.hold) ∨ (s.coState = .opened ∧ u = []) → s.ocount = 0 → s.dir = .enc →
    (s.mode = .ecb ∧ enc = fun w v => (w, ecbEnc s.bcKey s.bcRounds.toNat v)) ∨
      (s.mode = .pcbc ∧ enc = pcbcEnc s.bcKey s.bcRounds.toNat) →
    (s.pad = false → u.length % 8 ≠ 0 →
      exec .coEnd s = .next { s with failed := true, err := some .invalidArg, errOp := 0x62 }) ∧
    (s.pad = false → u.length % 8 = 0 → exec .coEnd s = .next { s with
      w := (enc s.w u).1, mem := Memory.storeBytes s.mem 0x20000 (enc s.w u).2,
      outLen0 := BitVec.ofNat 17 u.length, ocount := 1, hold := [], coState := .idle }) ∧
    (s.pad = true → u.length ≠ s.chunkSize.toNat → exec .coEnd s = .next { s with
      w := (enc s.w (addPadding u)).1, mem := Memory.storeBytes s.mem 0x20000 (enc s.w (addPadding u)).2,
      outLen0 := BitVec.ofNat 17 (addPadding u).length, ocount := 1, hold := [], coState := .idle }) ∧
    (s.pad = true → u.length = s.chunkSize.toNat → u.length % 8 = 0 → exec .coEnd s = .next { s with
      w := (enc (enc s.w u).1 [8, 8, 8, 8, 8, 8, 8, 8]).1,
      mem := Memory.storeBytes (Memory.storeBytes s.mem 0x20000 (enc s.w u).2) 0x30000
        (enc (enc s.w u).1 [8, 8, 8, 8, 8, 8, 8, 8]).2,
      outLen0 := BitVec.ofNat 17 u.length, outLen1 := 8, ocount := 2, hold := [], coState := .idle })

/-- R294, R296, R298, R300: CO_END of a decryption in ECB or PCBC: alignment first, then the padding. -/
def Obligations.CoEndDecrypts : Prop :=
  ∀ (s : State) (u : List Byte) (r : Block × List Byte),
    (s.coState = .holding ∧ u = s.hold) ∨ (s.coState = .opened ∧ u = []) → s.ocount = 0 → s.dir = .dec →
    (s.mode = .ecb ∧ r = (s.w, ecbDec s.bcKey s.bcRounds.toNat u)) ∨
      (s.mode = .pcbc ∧ r = pcbcDec s.bcKey s.bcRounds.toNat s.w u) →
    (u.length % 8 ≠ 0 → exec .coEnd s = .next { s with failed := true, err := some .invalidArg, errOp := 0x62 }) ∧
    (u.length % 8 = 0 → s.pad = false → exec .coEnd s = .next { s with
      w := r.1, mem := Memory.storeBytes s.mem 0x20000 r.2, outLen0 := BitVec.ofNat 17 u.length,
      ocount := 1, hold := [], coState := .idle }) ∧
    (u.length % 8 = 0 → s.pad = true → removePadding r.2 = .error .padding →
      exec .coEnd s = .next { s with failed := true, err := some .padding, errOp := 0x62 }) ∧
    (u.length % 8 = 0 → s.pad = true → ∀ p : List Byte, removePadding r.2 = .ok p → exec .coEnd s = .next { s with
      w := r.1, mem := Memory.storeBytes s.mem 0x20000 p, outLen0 := BitVec.ofNat 17 p.length,
      ocount := 1, hold := [], coState := .idle })

/-- R301, R302, R247 end to end: a padded encryption's single final unit, delivered as the final unit of a decryption stream from
the same engine state, gives back the plaintext unit, and both streams leave the same W. -/
def Obligations.EncryptedUnitDecrypts : Prop :=
  ∀ s t : State, s.Inv → s.coState = .holding → s.mode = .ecb ∨ s.mode = .pcbc → s.dir = .enc → s.pad = true →
    s.ocount = 0 → s.hold.length ≠ s.chunkSize.toNat → exec .coEnd s = .next t →
    ∃ t' : State,
      exec .coEnd { s with dir := .dec, hold := t.readBytes 0x20000 t.outLen0.toNat } = .next t' ∧
      t'.failed = s.failed ∧ t'.ocount = 1 ∧ t'.outLen0.toNat = s.hold.length ∧
      t'.readBytes 0x20000 t'.outLen0.toNat = s.hold ∧ t'.w = t.w

/-! ## Frames (10_state.md, 45_coordinator.md R290) -/

/-- What the rules of 10_state.md say of who writes each register: every command but RESET leaves each piece of state alone unless
it is one of those named for it. (RESET's result is `ResetState`.) -/
def Obligations.CommandsWriteOnlyTheirState : Prop :=
  ∀ (i : Instr) (s t : State), i ≠ .reset → exec i s = .next t →
    (t.scKeyLo = s.scKeyLo ∧ t.scKeyHi = s.scKeyHi ∧ t.scIv = s.scIv ∧ t.bcKey = s.bcKey ∧ t.bcRounds = s.bcRounds ∧
      t.cmIv = s.cmIv ∧ t.chunkSize = s.chunkSize ∧ t.len = s.len ∧ t.busy = s.busy ∧ t.drawEpoch = s.drawEpoch ∧
      t.pending = s.pending ∧ t.observed = s.observed) ∧
    (t.lfsr = s.lfsr ∨ (∃ n, i = .lfsrClock n) ∨ i ∈ [.scLoad, .scWarmup, .scStep] ∨
      (i ∈ [.coUnit, .coEnd] ∧ s.mode = .stream)) ∧
    (t.scState = s.scState ∨ (i = .scLoad ∧ t.scState = .keyLoaded) ∨ (i = .scWarmup ∧ t.scState = .running)) ∧
    (t.scCnt = s.scCnt ∨ i ∈ [.scLoad, .scWarmup, .scStep] ∨ (i ∈ [.coUnit, .coEnd] ∧ s.mode = .stream)) ∧
    (t.bcReady = s.bcReady ∨ (i = .bcSetkey ∧ t.bcReady = true)) ∧
    (t.data = s.data ∨ i ∈ [.bcEnc, .bcDec, .cmEnc, .cmDec]) ∧
    (t.result = s.result ∨ (∃ n tap, i = .lfsrOut n tap) ∨ i = .scStep) ∧
    (t.w = s.w ∨ i ∈ [.cmSetiv, .cmEnc, .cmDec] ∨ (i ∈ [.coUnit, .coEnd] ∧ s.mode = .pcbc)) ∧
    (t.cmReady = s.cmReady ∨ (i = .cmSetiv ∧ t.cmReady = true)) ∧
    ((t.dgH = s.dgH ∧ t.dgCnt = s.dgCnt ∧ t.dgRes = s.dgRes ∧ t.dgState = s.dgState) ∨
      i ∈ [.dgInit, .dgAbsorb, .dgFinal] ∨ (i ∈ [.coUnit, .coEnd] ∧ s.mode = .digest)) ∧
    ((t.mode = s.mode ∧ t.dir = s.dir ∧ t.pad = s.pad) ∨ ∃ m d p, i = .coOpen m d p) ∧
    ((t.coState = s.coState ∧ t.hold = s.hold) ∨ (∃ m d p, i = .coOpen m d p) ∨ i ∈ [.coUnit, .coEnd]) ∧
    ((t.mem = s.mem ∧ t.outLen0 = s.outLen0 ∧ t.outLen1 = s.outLen1) ∨ i ∈ [.coUnit, .coEnd]) ∧
    (t.ocount = s.ocount ∨ (i = .outAck ∧ t.ocount = 0) ∨ i ∈ [.coUnit, .coEnd]) ∧
    ((t.failed = s.failed ∧ t.err = s.err ∧ t.errOp = s.errOp) ∨ (t.failed = true ∧ t.errOp = i.opcode))

/-- R96, R97, R293: every byte of IBUF, and every byte of the slots outside the units emitted, reads as before. The units emitted
by CO_UNIT or CO_END are slot 0's first OUT_LEN0 bytes when OCOUNT rose to 1 or 2 and slot 1's first OUT_LEN1 when it rose to 2; no
other command but RESET touches a byte. -/
def Obligations.CommandsKeepOtherMemory : Prop :=
  ∀ (i : Instr) (s t : State) (a : Nat), s.Inv → i ≠ .reset → exec i s = .next t →
    (i ≠ .coUnit → i ≠ .coEnd → t.readByte a = s.readByte a) ∧
    (i = .coUnit ∨ i = .coEnd →
      ¬ (s.ocount = 0 ∧ 1 ≤ t.ocount.toNat ∧ 0x20000 ≤ a ∧ a < 0x20000 + t.outLen0.toNat) →
      ¬ (s.ocount = 0 ∧ t.ocount = 2 ∧ 0x30000 ≤ a ∧ a < 0x30000 + t.outLen1.toNat) →
      t.readByte a = s.readByte a)

/-- R290 with R72 and R364: while a stream is open, no step but one that issues CO_UNIT or CO_END or resets changes any engine, any
configuration register or the stream itself. -/
def Obligations.OpenStreamFreezesEngines : Prop :=
  ∀ s t : State, s.coState ≠ .idle → step s = .next t →
    (∀ rest, s.pending ≠ .resetInput :: rest) →
    (∀ rest, s.pending ≠ .write .w32 0x00008 0x00000001 :: rest) →
    (∀ rest, s.pending ≠ .write .w32 0x00008 0x00000061 :: rest) →
    (∀ rest, s.pending ≠ .write .w32 0x00008 0x00000062 :: rest) →
    t.lfsr = s.lfsr ∧ t.scKeyLo = s.scKeyLo ∧ t.scKeyHi = s.scKeyHi ∧ t.scIv = s.scIv ∧ t.scState = s.scState ∧
    t.scCnt = s.scCnt ∧ t.bcKey = s.bcKey ∧ t.bcRounds = s.bcRounds ∧ t.bcReady = s.bcReady ∧ t.cmIv = s.cmIv ∧
    t.w = s.w ∧ t.cmReady = s.cmReady ∧ t.dgH = s.dgH ∧ t.dgCnt = s.dgCnt ∧ t.dgRes = s.dgRes ∧ t.dgState = s.dgState ∧
    t.chunkSize = s.chunkSize ∧ t.coState = s.coState ∧ t.mode = s.mode ∧ t.dir = s.dir ∧ t.pad = s.pad ∧ t.hold = s.hold

/-! ## The bus and the CSRs (10_state.md, 20_memory.md) -/

/-- R72: a host write to a CSR, its rules in order: ignored if RO or reserved; ignored if locked while a stream is open; else the bits
the register holds are stored, BC_READY is cleared by a key or round write, and nothing else changes; a write to CMD issues a
command. FAILED blocks none of it. The last clause names, for each RW register by its offset, the state it stores into (R70: LEN,
DATA0 and DATA1 are never locked). -/
def Obligations.CsrWriteRules : Prop :=
  (∀ (s : State) (a : BitVec 18) (v : Word) (rest : List HostAction), s.busy = false → a.toNat < 0x1000 → a.toNat % 4 = 0 →
    a.toNat ∉ resetColumn.map Prod.fst → s.pending = .write .w32 a v :: rest → step s = .next { s with pending := rest }) ∧
  (∀ (s : State) (c : Csr) (v : Word) (rest : List HostAction), s.busy = false →
    s.pending = .write .w32 c.addr v :: rest →
    (c = .cmd → step s = issue v { s with pending := rest }) ∧
    (c.access = .ro → step s = .next { s with pending := rest }) ∧
    (c.locked = true → s.coState ≠ .idle → step s = .next { s with pending := rest }) ∧
    (c.access = .rw → ¬ (c.locked = true ∧ s.coState ≠ .idle) →
      ∃ t : State, step s = .next t ∧ t.readCsr c = v &&& c.writeMask ∧
        (∀ c' : Csr, c' ≠ c → c' ≠ .bcStat → t.readCsr c' = s.readCsr c') ∧
        t.readCsr .bcStat = (if c.clearsReady then 0 else s.readCsr .bcStat) ∧
        t.hold = s.hold ∧ t.dgRes = s.dgRes ∧ t.mem = s.mem ∧ t.drawEpoch = s.drawEpoch ∧ t.pending = rest ∧
        t.observed = s.observed)) ∧
  ∀ (s : State) (v : Word) (rest : List HostAction), s.busy = false →
    (s.pending = .write .w32 0x0000C v :: rest → step s = .next { s with pending := rest, len := v.setWidth 17 }) ∧
    (s.pending = .write .w32 0x00068 v :: rest →
      step s = .next { s with pending := rest, data := { s.data with v0 := v } }) ∧
    (s.pending = .write .w32 0x0006C v :: rest →
      step s = .next { s with pending := rest, data := { s.data with v1 := v } }) ∧
    (s.coState = .idle →
      (s.pending = .write .w32 0x00010 v :: rest → step s = .next { s with pending := rest, chunkSize := v.setWidth 17 }) ∧
      (s.pending = .write .w32 0x00020 v :: rest → step s = .next { s with pending := rest, scKeyLo := v }) ∧
      (s.pending = .write .w32 0x00024 v :: rest → step s = .next { s with pending := rest, scKeyHi := v }) ∧
      (s.pending = .write .w32 0x00028 v :: rest → step s = .next { s with pending := rest, scIv := v.setWidth 22 }) ∧
      (s.pending = .write .w32 0x00034 v :: rest →
        step s = .next { s with pending := rest, lfsr := { s.lfsr with r1 := v.setWidth 19 } }) ∧
      (s.pending = .write .w32 0x00038 v :: rest →
        step s = .next { s with pending := rest, lfsr := { s.lfsr with r2 := v.setWidth 22 } }) ∧
      (s.pending = .write .w32 0x0003C v :: rest →
        step s = .next { s with pending := rest, lfsr := { s.lfsr with r3 := v.setWidth 23 } }) ∧
      (s.pending = .write .w32 0x00040 v :: rest →
        step s = .next { s with pending := rest, lfsr := { s.lfsr with r4 := v.setWidth 17 } }) ∧
      (s.pending = .write .w32 0x00050 v :: rest →
        step s = .next { s with pending := rest, bcKey := { s.bcKey with k0 := v }, bcReady := false }) ∧
      (s.pending = .write .w32 0x00054 v :: rest →
        step s = .next { s with pending := rest, bcKey := { s.bcKey with k1 := v }, bcReady := false }) ∧
      (s.pending = .write .w32 0x00058 v :: rest →
        step s = .next { s with pending := rest, bcKey := { s.bcKey with k2 := v }, bcReady := false }) ∧
      (s.pending = .write .w32 0x0005C v :: rest →
        step s = .next { s with pending := rest, bcKey := { s.bcKey with k3 := v }, bcReady := false }) ∧
      (s.pending = .write .w32 0x00060 v :: rest →
        step s = .next { s with pending := rest, bcRounds := v, bcReady := false }) ∧
      (s.pending = .write .w32 0x00070 v :: rest →
        step s = .next { s with pending := rest, cmIv := { s.cmIv with v0 := v } }) ∧
      (s.pending = .write .w32 0x00074 v :: rest →
        step s = .next { s with pending := rest, cmIv := { s.cmIv with v1 := v } }))

/-- R71: a reserved CSR offset, and R94: an unmapped address, reads 0 and ignores writes. R94 gives unmapped accesses no width and no
alignment rule: that they are answered at every width and alignment inside 0x01000..0x0FFFF is the model's choice (log 8, DESIGN
CHOICE, unsafe for a part that answers a narrow or misaligned one otherwise). -/
def Obligations.ReservedAndUnmapped : Prop :=
  ∀ (s : State) (wd : Width) (a : BitVec 18) (v : Word) (rest : List HostAction), s.busy = false →
    (a.toNat < 0x1000 ∧ wd = .w32 ∧ a.toNat % 4 = 0 ∧ a.toNat ∉ resetColumn.map Prod.fst) ∨
      (0x1000 ≤ a.toNat ∧ a.toNat + wd.bytes ≤ 0x10000) →
    (s.pending = .read wd a :: rest → step s = .next { s with pending := rest, observed := s.observed ++ [0] }) ∧
    (s.pending = .write wd a v :: rest → step s = .next { s with pending := rest })

/-- R92, R97: an aligned read of a buffer returns its bytes, little-endian; an aligned write to IBUF stores the value's bytes,
little-endian, and leaves every other byte; a write to OBUF0 or OBUF1 is ignored. -/
def Obligations.BufferAccesses : Prop :=
  ∀ (s : State) (wd : Width) (a : BitVec 18) (v : Word) (rest : List HostAction), s.busy = false →
    0x10000 ≤ a.toNat → a.toNat % wd.bytes = 0 →
    (s.pending = .read wd a :: rest → ∃ x : Word,
      step s = .next { s with pending := rest, observed := s.observed ++ [x] } ∧
      x.toNat = ((List.range wd.bytes).map fun k => (s.readByte (a.toNat + k)).toNat * 256 ^ k).sum) ∧
    (a.toNat < 0x20000 → s.pending = .write wd a v :: rest → ∃ m : Memory,
      step s = .next { s with pending := rest, mem := m } ∧
      (∀ k, k < wd.bytes → State.readByte { s with mem := m } (a.toNat + k) = v.extractLsb' (8 * k) 8) ∧
      (∀ b, ¬ (a.toNat ≤ b ∧ b < a.toNat + wd.bytes) → State.readByte { s with mem := m } b = s.readByte b)) ∧
    (0x20000 ≤ a.toNat → s.pending = .write wd a v :: rest → step s = .next { s with pending := rest })

/-- R100: no read has a side effect, and two reads with nothing between them return the same value. -/
def Obligations.ReadsHaveNoSideEffect : Prop :=
  ∀ (s t : State) (wd : Width) (a : BitVec 18) (rest : List HostAction),
    s.pending = .read wd a :: .read wd a :: rest → step s = .next t →
    ∃ x : Word, t = { s with pending := .read wd a :: rest, observed := s.observed ++ [x] } ∧
      step t = .next { s with pending := rest, observed := s.observed ++ [x, x] }

/-- R70 with R32 to R57: what a bus read of each CSR returns, in every state. `csrFields` (Safety.lean) lists every register with its
offset and the number its fields make: STATUS (R54), CO_STAT (R49, R50) and DG_STAT (R47, R48) by where their fields stand, the
other registers zero-extended, DG_CNT and W by words. A 32-bit read at the offset appends that number and changes nothing else. (DG_STAT
for RES shorter than 128 bytes: it never holds 64, log 11.) -/
def Obligations.StatusWordLayouts : Prop :=
  ∀ s : State,
    (∀ c : Csr, ∃ v : Nat, (c.offset, c, v) ∈ s.csrFields) ∧
    ∀ (o : Nat) (c : Csr) (v : Nat), (o, c, v) ∈ s.csrFields → (c = .dgStat → s.dgRes.length < 128) →
      o = c.offset ∧ (s.readCsr c).toNat = v ∧
      ∀ rest : List HostAction, s.busy = false → s.pending = .read .w32 (BitVec.ofNat 18 o) :: rest →
        step s = .next { s with pending := rest, observed := s.observed ++ [BitVec.ofNat 32 v] }

/-- R110, R111: a key string of exactly 64 (an IV string of exactly 22) characters '0' and '1' converts so that register bit i is
the character i places before the last, and the host writes K[31:0] to SC_KEY_LO and K[63:32] to SC_KEY_HI (the IV to SC_IV). R112,
R113: a block key of exactly 16 bytes is written to BC_KEY0..3 and a chaining IV of exactly 8 to CM_IV0 and CM_IV1, each register the
big-endian word of its four bytes (for the IV the default of BLOCK_WORD_ORDER that the model takes: D15, log 5, DESIGN CHOICE).
Anything else is invalid-argument: `none`, no host write at all. -/
def Obligations.WireBitStrings : Prop :=
  (∀ (n : Nat) (s : List Char), n = 64 ∨ n = 22 →
    (s.length = n → (∀ c ∈ s, c = '0' ∨ c = '1') → ∃ k : BitVec n, bitString n s = some k ∧
      ∀ i, i < n → k.getLsbD i = decide (s.getD (n - 1 - i) '0' = '1')) ∧
    (s.length ≠ n → bitString n s = none) ∧
    (∀ c ∈ s, c ≠ '0' → c ≠ '1' → bitString n s = none)) ∧
  (∀ s : List Char,
    (s.length = 64 → (∀ c ∈ s, c = '0' ∨ c = '1') → ∃ lo hi : Word,
      wireStreamKey s = some [.write .w32 0x00020 lo, .write .w32 0x00024 hi] ∧
      ∀ i, i < 32 → lo.getLsbD i = decide (s.getD (63 - i) '0' = '1') ∧ hi.getLsbD i = decide (s.getD (31 - i) '0' = '1')) ∧
    (s.length = 22 → (∀ c ∈ s, c = '0' ∨ c = '1') → ∃ iv : Word,
      wireStreamIv s = some [.write .w32 0x00028 iv] ∧ iv.toNat < 2 ^ 22 ∧
      ∀ i, i < 22 → iv.getLsbD i = decide (s.getD (21 - i) '0' = '1')) ∧
    (s.length ≠ 64 ∨ (∃ c ∈ s, c ≠ '0' ∧ c ≠ '1') → wireStreamKey s = none) ∧
    (s.length ≠ 22 ∨ (∃ c ∈ s, c ≠ '0' ∧ c ≠ '1') → wireStreamIv s = none)) ∧
  (∀ b : List Byte,
    (b.length = 16 → ∃ w : Nat → Word,
      wireBlockKey b =
        some [.write .w32 0x00050 (w 0), .write .w32 0x00054 (w 1), .write .w32 0x00058 (w 2), .write .w32 0x0005C (w 3)] ∧
      ∀ i, i < 4 → (w i).toNat = (byteAt b (4 * i)).toNat * 2 ^ 24 + (byteAt b (4 * i + 1)).toNat * 2 ^ 16 +
        (byteAt b (4 * i + 2)).toNat * 2 ^ 8 + (byteAt b (4 * i + 3)).toNat) ∧
    (b.length = 8 → ∃ w : Nat → Word,
      wireChainIv b = some [.write .w32 0x00070 (w 0), .write .w32 0x00074 (w 1)] ∧
      ∀ i, i < 2 → (w i).toNat = (byteAt b (4 * i)).toNat * 2 ^ 24 + (byteAt b (4 * i + 1)).toNat * 2 ^ 16 +
        (byteAt b (4 * i + 2)).toNat * 2 ^ 8 + (byteAt b (4 * i + 3)).toNat) ∧
    (b.length ≠ 16 → wireBlockKey b = none) ∧
    (b.length ≠ 8 → wireChainIv b = none))

/-! ## The invariant (70_reset_and_hazards.md R400, 10_state.md) -/

/-- The invariant holds at reset. -/
def Obligations.InvariantAtReset : Prop := State.reset.Inv

/-- Every step keeps the invariant: canonical memory inside the buffers, RES below 64 bytes, HOLD inside CHUNK_SIZE and empty unless
HOLDING, OCOUNT at most 2, FAILED exactly with a recorded cause, no E_LANE, BUSY never seen, BC_READY only with a legal round count,
and an open stream's engine ready, options accepted and CHUNK_SIZE legal (R39, R47, R51, R54, R290, R291, R293, R319, R361, R420). -/
def Obligations.InvariantPreserved : Prop := ∀ s t : State, s.Inv → step s = .next t → t.Inv
end

