-- ==== Sys2Proof/Laws/State.lean ====
section
/-! SUPPORT. What each shared update of the state leaves in each field: one lemma per field per update, so that no proof
unfolds a record update. -/

namespace Sys2Proof.Machine


/-! ## Raising an error (R362) -/

@[simp] theorem State.raise_lfsr (s : State) (e : ErrCause) (op : Byte) : (s.raise e op).lfsr = s.lfsr := rfl
@[simp] theorem State.raise_scKeyLo (s : State) (e : ErrCause) (op : Byte) : (s.raise e op).scKeyLo = s.scKeyLo := rfl
@[simp] theorem State.raise_scKeyHi (s : State) (e : ErrCause) (op : Byte) : (s.raise e op).scKeyHi = s.scKeyHi := rfl
@[simp] theorem State.raise_scIv (s : State) (e : ErrCause) (op : Byte) : (s.raise e op).scIv = s.scIv := rfl
@[simp] theorem State.raise_scState (s : State) (e : ErrCause) (op : Byte) : (s.raise e op).scState = s.scState := rfl
@[simp] theorem State.raise_scCnt (s : State) (e : ErrCause) (op : Byte) : (s.raise e op).scCnt = s.scCnt := rfl
@[simp] theorem State.raise_bcKey (s : State) (e : ErrCause) (op : Byte) : (s.raise e op).bcKey = s.bcKey := rfl
@[simp] theorem State.raise_bcRounds (s : State) (e : ErrCause) (op : Byte) : (s.raise e op).bcRounds = s.bcRounds := rfl
@[simp] theorem State.raise_bcReady (s : State) (e : ErrCause) (op : Byte) : (s.raise e op).bcReady = s.bcReady := rfl
@[simp] theorem State.raise_data (s : State) (e : ErrCause) (op : Byte) : (s.raise e op).data = s.data := rfl
@[simp] theorem State.raise_result (s : State) (e : ErrCause) (op : Byte) : (s.raise e op).result = s.result := rfl
@[simp] theorem State.raise_cmIv (s : State) (e : ErrCause) (op : Byte) : (s.raise e op).cmIv = s.cmIv := rfl
@[simp] theorem State.raise_w (s : State) (e : ErrCause) (op : Byte) : (s.raise e op).w = s.w := rfl
@[simp] theorem State.raise_cmReady (s : State) (e : ErrCause) (op : Byte) : (s.raise e op).cmReady = s.cmReady := rfl
@[simp] theorem State.raise_dgH (s : State) (e : ErrCause) (op : Byte) : (s.raise e op).dgH = s.dgH := rfl
@[simp] theorem State.raise_dgCnt (s : State) (e : ErrCause) (op : Byte) : (s.raise e op).dgCnt = s.dgCnt := rfl
@[simp] theorem State.raise_dgRes (s : State) (e : ErrCause) (op : Byte) : (s.raise e op).dgRes = s.dgRes := rfl
@[simp] theorem State.raise_dgState (s : State) (e : ErrCause) (op : Byte) : (s.raise e op).dgState = s.dgState := rfl
@[simp] theorem State.raise_coState (s : State) (e : ErrCause) (op : Byte) : (s.raise e op).coState = s.coState := rfl
@[simp] theorem State.raise_mode (s : State) (e : ErrCause) (op : Byte) : (s.raise e op).mode = s.mode := rfl
@[simp] theorem State.raise_dir (s : State) (e : ErrCause) (op : Byte) : (s.raise e op).dir = s.dir := rfl
@[simp] theorem State.raise_pad (s : State) (e : ErrCause) (op : Byte) : (s.raise e op).pad = s.pad := rfl
@[simp] theorem State.raise_hold (s : State) (e : ErrCause) (op : Byte) : (s.raise e op).hold = s.hold := rfl
@[simp] theorem State.raise_chunkSize (s : State) (e : ErrCause) (op : Byte) : (s.raise e op).chunkSize = s.chunkSize := rfl
@[simp] theorem State.raise_len (s : State) (e : ErrCause) (op : Byte) : (s.raise e op).len = s.len := rfl
@[simp] theorem State.raise_busy (s : State) (e : ErrCause) (op : Byte) : (s.raise e op).busy = s.busy := rfl
@[simp] theorem State.raise_failed (s : State) (e : ErrCause) (op : Byte) : (s.raise e op).failed = true := rfl
@[simp] theorem State.raise_err (s : State) (e : ErrCause) (op : Byte) : (s.raise e op).err = some e := rfl
@[simp] theorem State.raise_errOp (s : State) (e : ErrCause) (op : Byte) : (s.raise e op).errOp = op := rfl
@[simp] theorem State.raise_ocount (s : State) (e : ErrCause) (op : Byte) : (s.raise e op).ocount = s.ocount := rfl
@[simp] theorem State.raise_outLen0 (s : State) (e : ErrCause) (op : Byte) : (s.raise e op).outLen0 = s.outLen0 := rfl
@[simp] theorem State.raise_outLen1 (s : State) (e : ErrCause) (op : Byte) : (s.raise e op).outLen1 = s.outLen1 := rfl
@[simp] theorem State.raise_mem (s : State) (e : ErrCause) (op : Byte) : (s.raise e op).mem = s.mem := rfl
@[simp] theorem State.raise_drawEpoch (s : State) (e : ErrCause) (op : Byte) : (s.raise e op).drawEpoch = s.drawEpoch := rfl
@[simp] theorem State.raise_pending (s : State) (e : ErrCause) (op : Byte) : (s.raise e op).pending = s.pending := rfl
@[simp] theorem State.raise_observed (s : State) (e : ErrCause) (op : Byte) : (s.raise e op).observed = s.observed := rfl

/-! ## The reset (R400) -/

@[simp] theorem State.doReset_lfsr (s : State) : (s.doReset).lfsr = State.reset.lfsr := rfl
@[simp] theorem State.doReset_scKeyLo (s : State) : (s.doReset).scKeyLo = State.reset.scKeyLo := rfl
@[simp] theorem State.doReset_scKeyHi (s : State) : (s.doReset).scKeyHi = State.reset.scKeyHi := rfl
@[simp] theorem State.doReset_scIv (s : State) : (s.doReset).scIv = State.reset.scIv := rfl
@[simp] theorem State.doReset_scState (s : State) : (s.doReset).scState = State.reset.scState := rfl
@[simp] theorem State.doReset_scCnt (s : State) : (s.doReset).scCnt = State.reset.scCnt := rfl
@[simp] theorem State.doReset_bcKey (s : State) : (s.doReset).bcKey = State.reset.bcKey := rfl
@[simp] theorem State.doReset_bcRounds (s : State) : (s.doReset).bcRounds = State.reset.bcRounds := rfl
@[simp] theorem State.doReset_bcReady (s : State) : (s.doReset).bcReady = State.reset.bcReady := rfl
@[simp] theorem State.doReset_data (s : State) : (s.doReset).data = State.reset.data := rfl
@[simp] theorem State.doReset_result (s : State) : (s.doReset).result = State.reset.result := rfl
@[simp] theorem State.doReset_cmIv (s : State) : (s.doReset).cmIv = State.reset.cmIv := rfl
@[simp] theorem State.doReset_w (s : State) : (s.doReset).w = State.reset.w := rfl
@[simp] theorem State.doReset_cmReady (s : State) : (s.doReset).cmReady = State.reset.cmReady := rfl
@[simp] theorem State.doReset_dgH (s : State) : (s.doReset).dgH = State.reset.dgH := rfl
@[simp] theorem State.doReset_dgCnt (s : State) : (s.doReset).dgCnt = State.reset.dgCnt := rfl
@[simp] theorem State.doReset_dgRes (s : State) : (s.doReset).dgRes = State.reset.dgRes := rfl
@[simp] theorem State.doReset_dgState (s : State) : (s.doReset).dgState = State.reset.dgState := rfl
@[simp] theorem State.doReset_coState (s : State) : (s.doReset).coState = State.reset.coState := rfl
@[simp] theorem State.doReset_mode (s : State) : (s.doReset).mode = State.reset.mode := rfl
@[simp] theorem State.doReset_dir (s : State) : (s.doReset).dir = State.reset.dir := rfl
@[simp] theorem State.doReset_pad (s : State) : (s.doReset).pad = State.reset.pad := rfl
@[simp] theorem State.doReset_hold (s : State) : (s.doReset).hold = State.reset.hold := rfl
@[simp] theorem State.doReset_chunkSize (s : State) : (s.doReset).chunkSize = State.reset.chunkSize := rfl
@[simp] theorem State.doReset_len (s : State) : (s.doReset).len = State.reset.len := rfl
@[simp] theorem State.doReset_busy (s : State) : (s.doReset).busy = State.reset.busy := rfl
@[simp] theorem State.doReset_failed (s : State) : (s.doReset).failed = State.reset.failed := rfl
@[simp] theorem State.doReset_err (s : State) : (s.doReset).err = State.reset.err := rfl
@[simp] theorem State.doReset_errOp (s : State) : (s.doReset).errOp = State.reset.errOp := rfl
@[simp] theorem State.doReset_ocount (s : State) : (s.doReset).ocount = State.reset.ocount := rfl
@[simp] theorem State.doReset_outLen0 (s : State) : (s.doReset).outLen0 = State.reset.outLen0 := rfl
@[simp] theorem State.doReset_outLen1 (s : State) : (s.doReset).outLen1 = State.reset.outLen1 := rfl
@[simp] theorem State.doReset_mem (s : State) : (s.doReset).mem = State.reset.mem := rfl
@[simp] theorem State.doReset_drawEpoch (s : State) : (s.doReset).drawEpoch = s.drawEpoch + 1 := rfl
@[simp] theorem State.doReset_pending (s : State) : (s.doReset).pending = s.pending := rfl
@[simp] theorem State.doReset_observed (s : State) : (s.doReset).observed = s.observed := rfl

/-! ## Writing buffer bytes -/

@[simp] theorem State.writeBytes_lfsr (s : State) (a : Nat) (bs : List Byte) : (s.writeBytes a bs).lfsr = s.lfsr := rfl
@[simp] theorem State.writeBytes_scKeyLo (s : State) (a : Nat) (bs : List Byte) : (s.writeBytes a bs).scKeyLo = s.scKeyLo := rfl
@[simp] theorem State.writeBytes_scKeyHi (s : State) (a : Nat) (bs : List Byte) : (s.writeBytes a bs).scKeyHi = s.scKeyHi := rfl
@[simp] theorem State.writeBytes_scIv (s : State) (a : Nat) (bs : List Byte) : (s.writeBytes a bs).scIv = s.scIv := rfl
@[simp] theorem State.writeBytes_scState (s : State) (a : Nat) (bs : List Byte) : (s.writeBytes a bs).scState = s.scState := rfl
@[simp] theorem State.writeBytes_scCnt (s : State) (a : Nat) (bs : List Byte) : (s.writeBytes a bs).scCnt = s.scCnt := rfl
@[simp] theorem State.writeBytes_bcKey (s : State) (a : Nat) (bs : List Byte) : (s.writeBytes a bs).bcKey = s.bcKey := rfl
@[simp] theorem State.writeBytes_bcRounds (s : State) (a : Nat) (bs : List Byte) : (s.writeBytes a bs).bcRounds = s.bcRounds := rfl
@[simp] theorem State.writeBytes_bcReady (s : State) (a : Nat) (bs : List Byte) : (s.writeBytes a bs).bcReady = s.bcReady := rfl
@[simp] theorem State.writeBytes_data (s : State) (a : Nat) (bs : List Byte) : (s.writeBytes a bs).data = s.data := rfl
@[simp] theorem State.writeBytes_result (s : State) (a : Nat) (bs : List Byte) : (s.writeBytes a bs).result = s.result := rfl
@[simp] theorem State.writeBytes_cmIv (s : State) (a : Nat) (bs : List Byte) : (s.writeBytes a bs).cmIv = s.cmIv := rfl
@[simp] theorem State.writeBytes_w (s : State) (a : Nat) (bs : List Byte) : (s.writeBytes a bs).w = s.w := rfl
@[simp] theorem State.writeBytes_cmReady (s : State) (a : Nat) (bs : List Byte) : (s.writeBytes a bs).cmReady = s.cmReady := rfl
@[simp] theorem State.writeBytes_dgH (s : State) (a : Nat) (bs : List Byte) : (s.writeBytes a bs).dgH = s.dgH := rfl
@[simp] theorem State.writeBytes_dgCnt (s : State) (a : Nat) (bs : List Byte) : (s.writeBytes a bs).dgCnt = s.dgCnt := rfl
@[simp] theorem State.writeBytes_dgRes (s : State) (a : Nat) (bs : List Byte) : (s.writeBytes a bs).dgRes = s.dgRes := rfl
@[simp] theorem State.writeBytes_dgState (s : State) (a : Nat) (bs : List Byte) : (s.writeBytes a bs).dgState = s.dgState := rfl
@[simp] theorem State.writeBytes_coState (s : State) (a : Nat) (bs : List Byte) : (s.writeBytes a bs).coState = s.coState := rfl
@[simp] theorem State.writeBytes_mode (s : State) (a : Nat) (bs : List Byte) : (s.writeBytes a bs).mode = s.mode := rfl
@[simp] theorem State.writeBytes_dir (s : State) (a : Nat) (bs : List Byte) : (s.writeBytes a bs).dir = s.dir := rfl
@[simp] theorem State.writeBytes_pad (s : State) (a : Nat) (bs : List Byte) : (s.writeBytes a bs).pad = s.pad := rfl
@[simp] theorem State.writeBytes_hold (s : State) (a : Nat) (bs : List Byte) : (s.writeBytes a bs).hold = s.hold := rfl
@[simp] theorem State.writeBytes_chunkSize (s : State) (a : Nat) (bs : List Byte) : (s.writeBytes a bs).chunkSize = s.chunkSize := rfl
@[simp] theorem State.writeBytes_len (s : State) (a : Nat) (bs : List Byte) : (s.writeBytes a bs).len = s.len := rfl
@[simp] theorem State.writeBytes_busy (s : State) (a : Nat) (bs : List Byte) : (s.writeBytes a bs).busy = s.busy := rfl
@[simp] theorem State.writeBytes_failed (s : State) (a : Nat) (bs : List Byte) : (s.writeBytes a bs).failed = s.failed := rfl
@[simp] theorem State.writeBytes_err (s : State) (a : Nat) (bs : List Byte) : (s.writeBytes a bs).err = s.err := rfl
@[simp] theorem State.writeBytes_errOp (s : State) (a : Nat) (bs : List Byte) : (s.writeBytes a bs).errOp = s.errOp := rfl
@[simp] theorem State.writeBytes_ocount (s : State) (a : Nat) (bs : List Byte) : (s.writeBytes a bs).ocount = s.ocount := rfl
@[simp] theorem State.writeBytes_outLen0 (s : State) (a : Nat) (bs : List Byte) : (s.writeBytes a bs).outLen0 = s.outLen0 := rfl
@[simp] theorem State.writeBytes_outLen1 (s : State) (a : Nat) (bs : List Byte) : (s.writeBytes a bs).outLen1 = s.outLen1 := rfl
@[simp] theorem State.writeBytes_mem (s : State) (a : Nat) (bs : List Byte) : (s.writeBytes a bs).mem = Memory.storeBytes s.mem a bs := rfl
@[simp] theorem State.writeBytes_drawEpoch (s : State) (a : Nat) (bs : List Byte) : (s.writeBytes a bs).drawEpoch = s.drawEpoch := rfl
@[simp] theorem State.writeBytes_pending (s : State) (a : Nat) (bs : List Byte) : (s.writeBytes a bs).pending = s.pending := rfl
@[simp] theorem State.writeBytes_observed (s : State) (a : Nat) (bs : List Byte) : (s.writeBytes a bs).observed = s.observed := rfl

/-! ## Emitting an output unit (R293) -/

@[simp] theorem State.emit_lfsr (s : State) (u : List Byte) : (s.emit u).lfsr = s.lfsr := by unfold State.emit; split <;> rfl
@[simp] theorem State.emit_scKeyLo (s : State) (u : List Byte) : (s.emit u).scKeyLo = s.scKeyLo := by unfold State.emit; split <;> rfl
@[simp] theorem State.emit_scKeyHi (s : State) (u : List Byte) : (s.emit u).scKeyHi = s.scKeyHi := by unfold State.emit; split <;> rfl
@[simp] theorem State.emit_scIv (s : State) (u : List Byte) : (s.emit u).scIv = s.scIv := by unfold State.emit; split <;> rfl
@[simp] theorem State.emit_scState (s : State) (u : List Byte) : (s.emit u).scState = s.scState := by unfold State.emit; split <;> rfl
@[simp] theorem State.emit_scCnt (s : State) (u : List Byte) : (s.emit u).scCnt = s.scCnt := by unfold State.emit; split <;> rfl
@[simp] theorem State.emit_bcKey (s : State) (u : List Byte) : (s.emit u).bcKey = s.bcKey := by unfold State.emit; split <;> rfl
@[simp] theorem State.emit_bcRounds (s : State) (u : List Byte) : (s.emit u).bcRounds = s.bcRounds := by unfold State.emit; split <;> rfl
@[simp] theorem State.emit_bcReady (s : State) (u : List Byte) : (s.emit u).bcReady = s.bcReady := by unfold State.emit; split <;> rfl
@[simp] theorem State.emit_data (s : State) (u : List Byte) : (s.emit u).data = s.data := by unfold State.emit; split <;> rfl
@[simp] theorem State.emit_result (s : State) (u : List Byte) : (s.emit u).result = s.result := by unfold State.emit; split <;> rfl
@[simp] theorem State.emit_cmIv (s : State) (u : List Byte) : (s.emit u).cmIv = s.cmIv := by unfold State.emit; split <;> rfl
@[simp] theorem State.emit_w (s : State) (u : List Byte) : (s.emit u).w = s.w := by unfold State.emit; split <;> rfl
@[simp] theorem State.emit_cmReady (s : State) (u : List Byte) : (s.emit u).cmReady = s.cmReady := by unfold State.emit; split <;> rfl
@[simp] theorem State.emit_dgH (s : State) (u : List Byte) : (s.emit u).dgH = s.dgH := by unfold State.emit; split <;> rfl
@[simp] theorem State.emit_dgCnt (s : State) (u : List Byte) : (s.emit u).dgCnt = s.dgCnt := by unfold State.emit; split <;> rfl
@[simp] theorem State.emit_dgRes (s : State) (u : List Byte) : (s.emit u).dgRes = s.dgRes := by unfold State.emit; split <;> rfl
@[simp] theorem State.emit_dgState (s : State) (u : List Byte) : (s.emit u).dgState = s.dgState := by unfold State.emit; split <;> rfl
@[simp] theorem State.emit_coState (s : State) (u : List Byte) : (s.emit u).coState = s.coState := by unfold State.emit; split <;> rfl
@[simp] theorem State.emit_mode (s : State) (u : List Byte) : (s.emit u).mode = s.mode := by unfold State.emit; split <;> rfl
@[simp] theorem State.emit_dir (s : State) (u : List Byte) : (s.emit u).dir = s.dir := by unfold State.emit; split <;> rfl
@[simp] theorem State.emit_pad (s : State) (u : List Byte) : (s.emit u).pad = s.pad := by unfold State.emit; split <;> rfl
@[simp] theorem State.emit_hold (s : State) (u : List Byte) : (s.emit u).hold = s.hold := by unfold State.emit; split <;> rfl
@[simp] theorem State.emit_chunkSize (s : State) (u : List Byte) : (s.emit u).chunkSize = s.chunkSize := by unfold State.emit; split <;> rfl
@[simp] theorem State.emit_len (s : State) (u : List Byte) : (s.emit u).len = s.len := by unfold State.emit; split <;> rfl
@[simp] theorem State.emit_busy (s : State) (u : List Byte) : (s.emit u).busy = s.busy := by unfold State.emit; split <;> rfl
@[simp] theorem State.emit_failed (s : State) (u : List Byte) : (s.emit u).failed = s.failed := by unfold State.emit; split <;> rfl
@[simp] theorem State.emit_err (s : State) (u : List Byte) : (s.emit u).err = s.err := by unfold State.emit; split <;> rfl
@[simp] theorem State.emit_errOp (s : State) (u : List Byte) : (s.emit u).errOp = s.errOp := by unfold State.emit; split <;> rfl
@[simp] theorem State.emit_ocount (s : State) (u : List Byte) : (s.emit u).ocount = s.ocount + 1 := by unfold State.emit; split <;> rfl
@[simp] theorem State.emit_drawEpoch (s : State) (u : List Byte) : (s.emit u).drawEpoch = s.drawEpoch := by unfold State.emit; split <;> rfl
@[simp] theorem State.emit_pending (s : State) (u : List Byte) : (s.emit u).pending = s.pending := by unfold State.emit; split <;> rfl
@[simp] theorem State.emit_observed (s : State) (u : List Byte) : (s.emit u).observed = s.observed := by unfold State.emit; split <;> rfl

/-! ## The keystream XOR (R190) -/

@[simp] theorem State.ksXor_lfsr (s : State) (u : List Byte) : ((s.ksXor u).1).lfsr = (Machine.ksXor s.lfsr u).1 := rfl
@[simp] theorem State.ksXor_scKeyLo (s : State) (u : List Byte) : ((s.ksXor u).1).scKeyLo = s.scKeyLo := rfl
@[simp] theorem State.ksXor_scKeyHi (s : State) (u : List Byte) : ((s.ksXor u).1).scKeyHi = s.scKeyHi := rfl
@[simp] theorem State.ksXor_scIv (s : State) (u : List Byte) : ((s.ksXor u).1).scIv = s.scIv := rfl
@[simp] theorem State.ksXor_scState (s : State) (u : List Byte) : ((s.ksXor u).1).scState = s.scState := rfl
@[simp] theorem State.ksXor_scCnt (s : State) (u : List Byte) : ((s.ksXor u).1).scCnt = s.scCnt + BitVec.ofNat 32 (8 * u.length) := rfl
@[simp] theorem State.ksXor_bcKey (s : State) (u : List Byte) : ((s.ksXor u).1).bcKey = s.bcKey := rfl
@[simp] theorem State.ksXor_bcRounds (s : State) (u : List Byte) : ((s.ksXor u).1).bcRounds = s.bcRounds := rfl
@[simp] theorem State.ksXor_bcReady (s : State) (u : List Byte) : ((s.ksXor u).1).bcReady = s.bcReady := rfl
@[simp] theorem State.ksXor_data (s : State) (u : List Byte) : ((s.ksXor u).1).data = s.data := rfl
@[simp] theorem State.ksXor_result (s : State) (u : List Byte) : ((s.ksXor u).1).result = s.result := rfl
@[simp] theorem State.ksXor_cmIv (s : State) (u : List Byte) : ((s.ksXor u).1).cmIv = s.cmIv := rfl
@[simp] theorem State.ksXor_w (s : State) (u : List Byte) : ((s.ksXor u).1).w = s.w := rfl
@[simp] theorem State.ksXor_cmReady (s : State) (u : List Byte) : ((s.ksXor u).1).cmReady = s.cmReady := rfl
@[simp] theorem State.ksXor_dgH (s : State) (u : List Byte) : ((s.ksXor u).1).dgH = s.dgH := rfl
@[simp] theorem State.ksXor_dgCnt (s : State) (u : List Byte) : ((s.ksXor u).1).dgCnt = s.dgCnt := rfl
@[simp] theorem State.ksXor_dgRes (s : State) (u : List Byte) : ((s.ksXor u).1).dgRes = s.dgRes := rfl
@[simp] theorem State.ksXor_dgState (s : State) (u : List Byte) : ((s.ksXor u).1).dgState = s.dgState := rfl
@[simp] theorem State.ksXor_coState (s : State) (u : List Byte) : ((s.ksXor u).1).coState = s.coState := rfl
@[simp] theorem State.ksXor_mode (s : State) (u : List Byte) : ((s.ksXor u).1).mode = s.mode := rfl
@[simp] theorem State.ksXor_dir (s : State) (u : List Byte) : ((s.ksXor u).1).dir = s.dir := rfl
@[simp] theorem State.ksXor_pad (s : State) (u : List Byte) : ((s.ksXor u).1).pad = s.pad := rfl
@[simp] theorem State.ksXor_hold (s : State) (u : List Byte) : ((s.ksXor u).1).hold = s.hold := rfl
@[simp] theorem State.ksXor_chunkSize (s : State) (u : List Byte) : ((s.ksXor u).1).chunkSize = s.chunkSize := rfl
@[simp] theorem State.ksXor_len (s : State) (u : List Byte) : ((s.ksXor u).1).len = s.len := rfl
@[simp] theorem State.ksXor_busy (s : State) (u : List Byte) : ((s.ksXor u).1).busy = s.busy := rfl
@[simp] theorem State.ksXor_failed (s : State) (u : List Byte) : ((s.ksXor u).1).failed = s.failed := rfl
@[simp] theorem State.ksXor_err (s : State) (u : List Byte) : ((s.ksXor u).1).err = s.err := rfl
@[simp] theorem State.ksXor_errOp (s : State) (u : List Byte) : ((s.ksXor u).1).errOp = s.errOp := rfl
@[simp] theorem State.ksXor_ocount (s : State) (u : List Byte) : ((s.ksXor u).1).ocount = s.ocount := rfl
@[simp] theorem State.ksXor_outLen0 (s : State) (u : List Byte) : ((s.ksXor u).1).outLen0 = s.outLen0 := rfl
@[simp] theorem State.ksXor_outLen1 (s : State) (u : List Byte) : ((s.ksXor u).1).outLen1 = s.outLen1 := rfl
@[simp] theorem State.ksXor_mem (s : State) (u : List Byte) : ((s.ksXor u).1).mem = s.mem := rfl
@[simp] theorem State.ksXor_drawEpoch (s : State) (u : List Byte) : ((s.ksXor u).1).drawEpoch = s.drawEpoch := rfl
@[simp] theorem State.ksXor_pending (s : State) (u : List Byte) : ((s.ksXor u).1).pending = s.pending := rfl
@[simp] theorem State.ksXor_observed (s : State) (u : List Byte) : ((s.ksXor u).1).observed = s.observed := rfl

/-! ## A block unit (R218, R246) -/

@[simp] theorem State.cipherUnit_lfsr (s : State) (u : List Byte) : ((s.cipherUnit u).1).lfsr = s.lfsr := by unfold State.cipherUnit; split <;> rfl
@[simp] theorem State.cipherUnit_scKeyLo (s : State) (u : List Byte) : ((s.cipherUnit u).1).scKeyLo = s.scKeyLo := by unfold State.cipherUnit; split <;> rfl
@[simp] theorem State.cipherUnit_scKeyHi (s : State) (u : List Byte) : ((s.cipherUnit u).1).scKeyHi = s.scKeyHi := by unfold State.cipherUnit; split <;> rfl
@[simp] theorem State.cipherUnit_scIv (s : State) (u : List Byte) : ((s.cipherUnit u).1).scIv = s.scIv := by unfold State.cipherUnit; split <;> rfl
@[simp] theorem State.cipherUnit_scState (s : State) (u : List Byte) : ((s.cipherUnit u).1).scState = s.scState := by unfold State.cipherUnit; split <;> rfl
@[simp] theorem State.cipherUnit_scCnt (s : State) (u : List Byte) : ((s.cipherUnit u).1).scCnt = s.scCnt := by unfold State.cipherUnit; split <;> rfl
@[simp] theorem State.cipherUnit_bcKey (s : State) (u : List Byte) : ((s.cipherUnit u).1).bcKey = s.bcKey := by unfold State.cipherUnit; split <;> rfl
@[simp] theorem State.cipherUnit_bcRounds (s : State) (u : List Byte) : ((s.cipherUnit u).1).bcRounds = s.bcRounds := by unfold State.cipherUnit; split <;> rfl
@[simp] theorem State.cipherUnit_bcReady (s : State) (u : List Byte) : ((s.cipherUnit u).1).bcReady = s.bcReady := by unfold State.cipherUnit; split <;> rfl
@[simp] theorem State.cipherUnit_data (s : State) (u : List Byte) : ((s.cipherUnit u).1).data = s.data := by unfold State.cipherUnit; split <;> rfl
@[simp] theorem State.cipherUnit_result (s : State) (u : List Byte) : ((s.cipherUnit u).1).result = s.result := by unfold State.cipherUnit; split <;> rfl
@[simp] theorem State.cipherUnit_cmIv (s : State) (u : List Byte) : ((s.cipherUnit u).1).cmIv = s.cmIv := by unfold State.cipherUnit; split <;> rfl
@[simp] theorem State.cipherUnit_cmReady (s : State) (u : List Byte) : ((s.cipherUnit u).1).cmReady = s.cmReady := by unfold State.cipherUnit; split <;> rfl
@[simp] theorem State.cipherUnit_dgH (s : State) (u : List Byte) : ((s.cipherUnit u).1).dgH = s.dgH := by unfold State.cipherUnit; split <;> rfl
@[simp] theorem State.cipherUnit_dgCnt (s : State) (u : List Byte) : ((s.cipherUnit u).1).dgCnt = s.dgCnt := by unfold State.cipherUnit; split <;> rfl
@[simp] theorem State.cipherUnit_dgRes (s : State) (u : List Byte) : ((s.cipherUnit u).1).dgRes = s.dgRes := by unfold State.cipherUnit; split <;> rfl
@[simp] theorem State.cipherUnit_dgState (s : State) (u : List Byte) : ((s.cipherUnit u).1).dgState = s.dgState := by unfold State.cipherUnit; split <;> rfl
@[simp] theorem State.cipherUnit_coState (s : State) (u : List Byte) : ((s.cipherUnit u).1).coState = s.coState := by unfold State.cipherUnit; split <;> rfl
@[simp] theorem State.cipherUnit_mode (s : State) (u : List Byte) : ((s.cipherUnit u).1).mode = s.mode := by unfold State.cipherUnit; split <;> rfl
@[simp] theorem State.cipherUnit_dir (s : State) (u : List Byte) : ((s.cipherUnit u).1).dir = s.dir := by unfold State.cipherUnit; split <;> rfl
@[simp] theorem State.cipherUnit_pad (s : State) (u : List Byte) : ((s.cipherUnit u).1).pad = s.pad := by unfold State.cipherUnit; split <;> rfl
@[simp] theorem State.cipherUnit_hold (s : State) (u : List Byte) : ((s.cipherUnit u).1).hold = s.hold := by unfold State.cipherUnit; split <;> rfl
@[simp] theorem State.cipherUnit_chunkSize (s : State) (u : List Byte) : ((s.cipherUnit u).1).chunkSize = s.chunkSize := by unfold State.cipherUnit; split <;> rfl
@[simp] theorem State.cipherUnit_len (s : State) (u : List Byte) : ((s.cipherUnit u).1).len = s.len := by unfold State.cipherUnit; split <;> rfl
@[simp] theorem State.cipherUnit_busy (s : State) (u : List Byte) : ((s.cipherUnit u).1).busy = s.busy := by unfold State.cipherUnit; split <;> rfl
@[simp] theorem State.cipherUnit_failed (s : State) (u : List Byte) : ((s.cipherUnit u).1).failed = s.failed := by unfold State.cipherUnit; split <;> rfl
@[simp] theorem State.cipherUnit_err (s : State) (u : List Byte) : ((s.cipherUnit u).1).err = s.err := by unfold State.cipherUnit; split <;> rfl
@[simp] theorem State.cipherUnit_errOp (s : State) (u : List Byte) : ((s.cipherUnit u).1).errOp = s.errOp := by unfold State.cipherUnit; split <;> rfl
@[simp] theorem State.cipherUnit_ocount (s : State) (u : List Byte) : ((s.cipherUnit u).1).ocount = s.ocount := by unfold State.cipherUnit; split <;> rfl
@[simp] theorem State.cipherUnit_outLen0 (s : State) (u : List Byte) : ((s.cipherUnit u).1).outLen0 = s.outLen0 := by unfold State.cipherUnit; split <;> rfl
@[simp] theorem State.cipherUnit_outLen1 (s : State) (u : List Byte) : ((s.cipherUnit u).1).outLen1 = s.outLen1 := by unfold State.cipherUnit; split <;> rfl
@[simp] theorem State.cipherUnit_mem (s : State) (u : List Byte) : ((s.cipherUnit u).1).mem = s.mem := by unfold State.cipherUnit; split <;> rfl
@[simp] theorem State.cipherUnit_drawEpoch (s : State) (u : List Byte) : ((s.cipherUnit u).1).drawEpoch = s.drawEpoch := by unfold State.cipherUnit; split <;> rfl
@[simp] theorem State.cipherUnit_pending (s : State) (u : List Byte) : ((s.cipherUnit u).1).pending = s.pending := by unfold State.cipherUnit; split <;> rfl
@[simp] theorem State.cipherUnit_observed (s : State) (u : List Byte) : ((s.cipherUnit u).1).observed = s.observed := by unfold State.cipherUnit; split <;> rfl

/-! ## Absorbing (R262) -/

@[simp] theorem State.absorb_lfsr (s : State) (data : List Byte) (final : Bool) : (s.absorb data final).lfsr = s.lfsr := rfl
@[simp] theorem State.absorb_scKeyLo (s : State) (data : List Byte) (final : Bool) : (s.absorb data final).scKeyLo = s.scKeyLo := rfl
@[simp] theorem State.absorb_scKeyHi (s : State) (data : List Byte) (final : Bool) : (s.absorb data final).scKeyHi = s.scKeyHi := rfl
@[simp] theorem State.absorb_scIv (s : State) (data : List Byte) (final : Bool) : (s.absorb data final).scIv = s.scIv := rfl
@[simp] theorem State.absorb_scState (s : State) (data : List Byte) (final : Bool) : (s.absorb data final).scState = s.scState := rfl
@[simp] theorem State.absorb_scCnt (s : State) (data : List Byte) (final : Bool) : (s.absorb data final).scCnt = s.scCnt := rfl
@[simp] theorem State.absorb_bcKey (s : State) (data : List Byte) (final : Bool) : (s.absorb data final).bcKey = s.bcKey := rfl
@[simp] theorem State.absorb_bcRounds (s : State) (data : List Byte) (final : Bool) : (s.absorb data final).bcRounds = s.bcRounds := rfl
@[simp] theorem State.absorb_bcReady (s : State) (data : List Byte) (final : Bool) : (s.absorb data final).bcReady = s.bcReady := rfl
@[simp] theorem State.absorb_data (s : State) (data : List Byte) (final : Bool) : (s.absorb data final).data = s.data := rfl
@[simp] theorem State.absorb_result (s : State) (data : List Byte) (final : Bool) : (s.absorb data final).result = s.result := rfl
@[simp] theorem State.absorb_cmIv (s : State) (data : List Byte) (final : Bool) : (s.absorb data final).cmIv = s.cmIv := rfl
@[simp] theorem State.absorb_w (s : State) (data : List Byte) (final : Bool) : (s.absorb data final).w = s.w := rfl
@[simp] theorem State.absorb_cmReady (s : State) (data : List Byte) (final : Bool) : (s.absorb data final).cmReady = s.cmReady := rfl
@[simp] theorem State.absorb_dgCnt (s : State) (data : List Byte) (final : Bool) : (s.absorb data final).dgCnt = s.dgCnt + BitVec.ofNat 64 data.length := rfl
@[simp] theorem State.absorb_dgState (s : State) (data : List Byte) (final : Bool) : (s.absorb data final).dgState = if final then .done else s.dgState := rfl
@[simp] theorem State.absorb_coState (s : State) (data : List Byte) (final : Bool) : (s.absorb data final).coState = s.coState := rfl
@[simp] theorem State.absorb_mode (s : State) (data : List Byte) (final : Bool) : (s.absorb data final).mode = s.mode := rfl
@[simp] theorem State.absorb_dir (s : State) (data : List Byte) (final : Bool) : (s.absorb data final).dir = s.dir := rfl
@[simp] theorem State.absorb_pad (s : State) (data : List Byte) (final : Bool) : (s.absorb data final).pad = s.pad := rfl
@[simp] theorem State.absorb_hold (s : State) (data : List Byte) (final : Bool) : (s.absorb data final).hold = s.hold := rfl
@[simp] theorem State.absorb_chunkSize (s : State) (data : List Byte) (final : Bool) : (s.absorb data final).chunkSize = s.chunkSize := rfl
@[simp] theorem State.absorb_len (s : State) (data : List Byte) (final : Bool) : (s.absorb data final).len = s.len := rfl
@[simp] theorem State.absorb_busy (s : State) (data : List Byte) (final : Bool) : (s.absorb data final).busy = s.busy := rfl
@[simp] theorem State.absorb_failed (s : State) (data : List Byte) (final : Bool) : (s.absorb data final).failed = s.failed := rfl
@[simp] theorem State.absorb_err (s : State) (data : List Byte) (final : Bool) : (s.absorb data final).err = s.err := rfl
@[simp] theorem State.absorb_errOp (s : State) (data : List Byte) (final : Bool) : (s.absorb data final).errOp = s.errOp := rfl
@[simp] theorem State.absorb_ocount (s : State) (data : List Byte) (final : Bool) : (s.absorb data final).ocount = s.ocount := rfl
@[simp] theorem State.absorb_outLen0 (s : State) (data : List Byte) (final : Bool) : (s.absorb data final).outLen0 = s.outLen0 := rfl
@[simp] theorem State.absorb_outLen1 (s : State) (data : List Byte) (final : Bool) : (s.absorb data final).outLen1 = s.outLen1 := rfl
@[simp] theorem State.absorb_mem (s : State) (data : List Byte) (final : Bool) : (s.absorb data final).mem = s.mem := rfl
@[simp] theorem State.absorb_drawEpoch (s : State) (data : List Byte) (final : Bool) : (s.absorb data final).drawEpoch = s.drawEpoch := rfl
@[simp] theorem State.absorb_pending (s : State) (data : List Byte) (final : Bool) : (s.absorb data final).pending = s.pending := rfl
@[simp] theorem State.absorb_observed (s : State) (data : List Byte) (final : Bool) : (s.absorb data final).observed = s.observed := rfl

/-! ## Storing a CSR (R72) -/

@[simp] theorem State.storeCsr_scState (s : State) (c : Csr) (v : Word) : (s.storeCsr c v).scState = s.scState := by cases c <;> rfl
@[simp] theorem State.storeCsr_scCnt (s : State) (c : Csr) (v : Word) : (s.storeCsr c v).scCnt = s.scCnt := by cases c <;> rfl
@[simp] theorem State.storeCsr_result (s : State) (c : Csr) (v : Word) : (s.storeCsr c v).result = s.result := by cases c <;> rfl
@[simp] theorem State.storeCsr_w (s : State) (c : Csr) (v : Word) : (s.storeCsr c v).w = s.w := by cases c <;> rfl
@[simp] theorem State.storeCsr_cmReady (s : State) (c : Csr) (v : Word) : (s.storeCsr c v).cmReady = s.cmReady := by cases c <;> rfl
@[simp] theorem State.storeCsr_dgH (s : State) (c : Csr) (v : Word) : (s.storeCsr c v).dgH = s.dgH := by cases c <;> rfl
@[simp] theorem State.storeCsr_dgCnt (s : State) (c : Csr) (v : Word) : (s.storeCsr c v).dgCnt = s.dgCnt := by cases c <;> rfl
@[simp] theorem State.storeCsr_dgRes (s : State) (c : Csr) (v : Word) : (s.storeCsr c v).dgRes = s.dgRes := by cases c <;> rfl
@[simp] theorem State.storeCsr_dgState (s : State) (c : Csr) (v : Word) : (s.storeCsr c v).dgState = s.dgState := by cases c <;> rfl
@[simp] theorem State.storeCsr_coState (s : State) (c : Csr) (v : Word) : (s.storeCsr c v).coState = s.coState := by cases c <;> rfl
@[simp] theorem State.storeCsr_mode (s : State) (c : Csr) (v : Word) : (s.storeCsr c v).mode = s.mode := by cases c <;> rfl
@[simp] theorem State.storeCsr_dir (s : State) (c : Csr) (v : Word) : (s.storeCsr c v).dir = s.dir := by cases c <;> rfl
@[simp] theorem State.storeCsr_pad (s : State) (c : Csr) (v : Word) : (s.storeCsr c v).pad = s.pad := by cases c <;> rfl
@[simp] theorem State.storeCsr_hold (s : State) (c : Csr) (v : Word) : (s.storeCsr c v).hold = s.hold := by cases c <;> rfl
@[simp] theorem State.storeCsr_busy (s : State) (c : Csr) (v : Word) : (s.storeCsr c v).busy = s.busy := by cases c <;> rfl
@[simp] theorem State.storeCsr_failed (s : State) (c : Csr) (v : Word) : (s.storeCsr c v).failed = s.failed := by cases c <;> rfl
@[simp] theorem State.storeCsr_err (s : State) (c : Csr) (v : Word) : (s.storeCsr c v).err = s.err := by cases c <;> rfl
@[simp] theorem State.storeCsr_errOp (s : State) (c : Csr) (v : Word) : (s.storeCsr c v).errOp = s.errOp := by cases c <;> rfl
@[simp] theorem State.storeCsr_ocount (s : State) (c : Csr) (v : Word) : (s.storeCsr c v).ocount = s.ocount := by cases c <;> rfl
@[simp] theorem State.storeCsr_outLen0 (s : State) (c : Csr) (v : Word) : (s.storeCsr c v).outLen0 = s.outLen0 := by cases c <;> rfl
@[simp] theorem State.storeCsr_outLen1 (s : State) (c : Csr) (v : Word) : (s.storeCsr c v).outLen1 = s.outLen1 := by cases c <;> rfl
@[simp] theorem State.storeCsr_mem (s : State) (c : Csr) (v : Word) : (s.storeCsr c v).mem = s.mem := by cases c <;> rfl
@[simp] theorem State.storeCsr_drawEpoch (s : State) (c : Csr) (v : Word) : (s.storeCsr c v).drawEpoch = s.drawEpoch := by cases c <;> rfl
@[simp] theorem State.storeCsr_pending (s : State) (c : Csr) (v : Word) : (s.storeCsr c v).pending = s.pending := by cases c <;> rfl
@[simp] theorem State.storeCsr_observed (s : State) (c : Csr) (v : Word) : (s.storeCsr c v).observed = s.observed := by cases c <;> rfl

/-! ## A host write to a CSR (R72) -/

@[simp] theorem State.writeCsr_scState (s : State) (c : Csr) (v : Word) : (s.writeCsr c v).scState = s.scState := by
  unfold State.writeCsr; split_ifs <;> simp
@[simp] theorem State.writeCsr_scCnt (s : State) (c : Csr) (v : Word) : (s.writeCsr c v).scCnt = s.scCnt := by
  unfold State.writeCsr; split_ifs <;> simp
@[simp] theorem State.writeCsr_result (s : State) (c : Csr) (v : Word) : (s.writeCsr c v).result = s.result := by
  unfold State.writeCsr; split_ifs <;> simp
@[simp] theorem State.writeCsr_w (s : State) (c : Csr) (v : Word) : (s.writeCsr c v).w = s.w := by
  unfold State.writeCsr; split_ifs <;> simp
@[simp] theorem State.writeCsr_cmReady (s : State) (c : Csr) (v : Word) : (s.writeCsr c v).cmReady = s.cmReady := by
  unfold State.writeCsr; split_ifs <;> simp
@[simp] theorem State.writeCsr_dgH (s : State) (c : Csr) (v : Word) : (s.writeCsr c v).dgH = s.dgH := by
  unfold State.writeCsr; split_ifs <;> simp
@[simp] theorem State.writeCsr_dgCnt (s : State) (c : Csr) (v : Word) : (s.writeCsr c v).dgCnt = s.dgCnt := by
  unfold State.writeCsr; split_ifs <;> simp
@[simp] theorem State.writeCsr_dgRes (s : State) (c : Csr) (v : Word) : (s.writeCsr c v).dgRes = s.dgRes := by
  unfold State.writeCsr; split_ifs <;> simp
@[simp] theorem State.writeCsr_dgState (s : State) (c : Csr) (v : Word) : (s.writeCsr c v).dgState = s.dgState := by
  unfold State.writeCsr; split_ifs <;> simp
@[simp] theorem State.writeCsr_coState (s : State) (c : Csr) (v : Word) : (s.writeCsr c v).coState = s.coState := by
  unfold State.writeCsr; split_ifs <;> simp
@[simp] theorem State.writeCsr_mode (s : State) (c : Csr) (v : Word) : (s.writeCsr c v).mode = s.mode := by
  unfold State.writeCsr; split_ifs <;> simp
@[simp] theorem State.writeCsr_dir (s : State) (c : Csr) (v : Word) : (s.writeCsr c v).dir = s.dir := by
  unfold State.writeCsr; split_ifs <;> simp
@[simp] theorem State.writeCsr_pad (s : State) (c : Csr) (v : Word) : (s.writeCsr c v).pad = s.pad := by
  unfold State.writeCsr; split_ifs <;> simp
@[simp] theorem State.writeCsr_hold (s : State) (c : Csr) (v : Word) : (s.writeCsr c v).hold = s.hold := by
  unfold State.writeCsr; split_ifs <;> simp
@[simp] theorem State.writeCsr_busy (s : State) (c : Csr) (v : Word) : (s.writeCsr c v).busy = s.busy := by
  unfold State.writeCsr; split_ifs <;> simp
@[simp] theorem State.writeCsr_failed (s : State) (c : Csr) (v : Word) : (s.writeCsr c v).failed = s.failed := by
  unfold State.writeCsr; split_ifs <;> simp
@[simp] theorem State.writeCsr_err (s : State) (c : Csr) (v : Word) : (s.writeCsr c v).err = s.err := by
  unfold State.writeCsr; split_ifs <;> simp
@[simp] theorem State.writeCsr_errOp (s : State) (c : Csr) (v : Word) : (s.writeCsr c v).errOp = s.errOp := by
  unfold State.writeCsr; split_ifs <;> simp
@[simp] theorem State.writeCsr_ocount (s : State) (c : Csr) (v : Word) : (s.writeCsr c v).ocount = s.ocount := by
  unfold State.writeCsr; split_ifs <;> simp
@[simp] theorem State.writeCsr_outLen0 (s : State) (c : Csr) (v : Word) : (s.writeCsr c v).outLen0 = s.outLen0 := by
  unfold State.writeCsr; split_ifs <;> simp
@[simp] theorem State.writeCsr_outLen1 (s : State) (c : Csr) (v : Word) : (s.writeCsr c v).outLen1 = s.outLen1 := by
  unfold State.writeCsr; split_ifs <;> simp
@[simp] theorem State.writeCsr_mem (s : State) (c : Csr) (v : Word) : (s.writeCsr c v).mem = s.mem := by
  unfold State.writeCsr; split_ifs <;> simp
@[simp] theorem State.writeCsr_drawEpoch (s : State) (c : Csr) (v : Word) : (s.writeCsr c v).drawEpoch = s.drawEpoch := by
  unfold State.writeCsr; split_ifs <;> simp
@[simp] theorem State.writeCsr_pending (s : State) (c : Csr) (v : Word) : (s.writeCsr c v).pending = s.pending := by
  unfold State.writeCsr; split_ifs <;> simp
@[simp] theorem State.writeCsr_observed (s : State) (c : Csr) (v : Word) : (s.writeCsr c v).observed = s.observed := by
  unfold State.writeCsr; split_ifs <;> simp

end Sys2Proof.Machine
end

