-- ==== Sys2Proof/Laws/Memory.lean ====
section
/-! SUPPORT. The buffer memory: read after write, the canonical form, and the range of written addresses. -/

namespace Sys2Proof.Machine

/-! ## Read after write -/

@[simp] theorem Memory.lookup_store_same (m : Memory) (a : Nat) (b : Byte) :
    Memory.lookup (Memory.store m a b) a = some b := by
  induction m with
  | nil => simp [Memory.store, Memory.lookup]
  | cons c m ih =>
    obtain ⟨k, d⟩ := c
    unfold Memory.store
    split_ifs with h1 h2
    · simp [Memory.lookup]
    · simp [Memory.lookup]
    · simp [Memory.lookup, ih, Ne.symm h2]

theorem Memory.lookup_store_other (m : Memory) {a a' : Nat} (b : Byte) (h : a' ≠ a) :
    Memory.lookup (Memory.store m a b) a' = Memory.lookup m a' := by
  induction m with
  | nil => simp [Memory.store, Memory.lookup, Ne.symm h]
  | cons c m ih =>
    obtain ⟨k, d⟩ := c
    unfold Memory.store
    split_ifs with h1 h2
    · simp [Memory.lookup, Ne.symm h]
    · subst h2; simp [Memory.lookup, Ne.symm h]
    · simp [Memory.lookup, ih]

/-- After a byte sequence is written, every address reads its new byte inside the written range, its old one outside. -/
theorem Memory.lookup_storeBytes (m : Memory) (a a' : Nat) (bs : List Byte) :
    Memory.lookup (Memory.storeBytes m a bs) a' =
      if a ≤ a' ∧ a' < a + bs.length then some (byteAt bs (a' - a)) else Memory.lookup m a' := by
  induction bs generalizing m a with
  | nil => simp [Memory.storeBytes]
  | cons b bs ih =>
    rw [Memory.storeBytes, ih]
    by_cases h : a' = a
    · subst h; simp [byteAt]
    · rw [Memory.lookup_store_other m b h]
      by_cases h2 : a + 1 ≤ a' ∧ a' < a + 1 + bs.length
      · have h3 : a ≤ a' ∧ a' < a + (b :: bs).length := by simp; omega
        have h4 : a' - a = (a' - (a + 1)) + 1 := by omega
        rw [if_pos h2, if_pos h3, h4]; simp [byteAt]
      · have h3 : ¬ (a ≤ a' ∧ a' < a + (b :: bs).length) := by simp at h2 ⊢; omega
        rw [if_neg h2, if_neg h3]

theorem State.readByte_writeBytes (s : State) (a a' : Nat) (bs : List Byte) :
    (s.writeBytes a bs).readByte a' =
      if a ≤ a' ∧ a' < a + bs.length then byteAt bs (a' - a) else s.readByte a' := by
  unfold State.readByte
  rw [State.writeBytes_mem, Memory.lookup_storeBytes]
  by_cases h : a ≤ a' ∧ a' < a + bs.length
  · simp [if_pos h]
  · simp [if_neg h]

theorem State.readByte_congr {s t : State} (hm : t.mem = s.mem) (he : t.drawEpoch = s.drawEpoch) (a : Nat) :
    t.readByte a = s.readByte a := by simp [State.readByte, hm, he]

@[simp] theorem State.length_readBytes (s : State) (a n : Nat) : (s.readBytes a n).length = n := by
  simp [State.readBytes]

@[simp] theorem State.length_ibuf (s : State) (n : Nat) : (s.ibuf n).length = n := by simp [State.ibuf]

/-! ## The canonical form -/

theorem Memory.mem_store {m : Memory} {a : Nat} {b : Byte} {c : Host.Cell} (h : c ∈ Memory.store m a b) :
    c = (a, b) ∨ c ∈ m := by
  induction m with
  | nil => simp [Memory.store] at h; exact .inl h
  | cons d m ih =>
    obtain ⟨k, e⟩ := d
    unfold Memory.store at h
    split_ifs at h with h1 h2
    · simpa using h
    · rcases List.mem_cons.1 h with h | h
      · exact .inl h
      · exact .inr (List.mem_cons_of_mem _ h)
    · rcases List.mem_cons.1 h with h | h
      · exact .inr (h ▸ List.mem_cons_self)
      · rcases ih h with h | h
        · exact .inl h
        · exact .inr (List.mem_cons_of_mem _ h)

theorem Memory.wf_store {m : Memory} (a : Nat) (b : Byte) (h : Memory.wf m) : Memory.wf (Memory.store m a b) := by
  induction m with
  | nil => simp [Memory.store, Memory.wf]
  | cons d m ih =>
    obtain ⟨k, e⟩ := d
    obtain ⟨hk, hm⟩ := List.pairwise_cons.1 h
    unfold Memory.store
    split_ifs with h1 h2
    · refine List.pairwise_cons.2 ⟨fun c hc => ?_, h⟩
      rcases List.mem_cons.1 hc with rfl | hc
      · exact h1
      · exact lt_trans h1 (hk c hc)
    · subst h2; exact List.pairwise_cons.2 ⟨hk, hm⟩
    · refine List.pairwise_cons.2 ⟨fun c hc => ?_, ih hm⟩
      rcases Memory.mem_store hc with rfl | hc
      · show k < a
        omega
      · exact hk c hc

theorem Memory.wf_storeBytes {m : Memory} (a : Nat) (bs : List Byte) (h : Memory.wf m) :
    Memory.wf (Memory.storeBytes m a bs) := by
  induction bs generalizing m a with
  | nil => exact h
  | cons b bs ih => exact ih (a + 1) (Memory.wf_store a b h)

/-- Every listed address is an old one or lies in the written range. -/
theorem Memory.mem_storeBytes {m : Memory} {a : Nat} {bs : List Byte} {c : Host.Cell}
    (h : c ∈ Memory.storeBytes m a bs) : (a ≤ c.1 ∧ c.1 < a + bs.length) ∨ c ∈ m := by
  induction bs generalizing m a with
  | nil => exact .inr h
  | cons b bs ih =>
    rcases ih h with h | h
    · left; simp; omega
    · rcases Memory.mem_store h with rfl | h
      · left; simp
      · exact .inr h

theorem reset_mem_wf : Memory.wf State.reset.mem := List.Pairwise.nil

end Sys2Proof.Machine
end

