-- ==== Sys2Proof/Laws/Ops.lean ====
section
/-! SUPPORT. What each shared operation can do, said once: a command's frame, emit, raise, issue and a host access. -/

namespace Sys2Proof.Machine

/-! ## Checks and the frame of a command (R364) -/

@[simp] theorem firstError_nil : firstError [] = none := rfl

@[simp] theorem firstError_cons_true (e : ErrCause) (r : List (Bool × ErrCause)) :
    firstError ((true, e) :: r) = some e := rfl

@[simp] theorem firstError_cons_false (e : ErrCause) (r : List (Bool × ErrCause)) :
    firstError ((false, e) :: r) = firstError r := rfl

/-- No check fires exactly when every condition is false. -/
theorem firstError_eq_none {cs : List (Bool × ErrCause)} : firstError cs = none ↔ ∀ c ∈ cs, c.1 = false := by
  induction cs with
  | nil => simp
  | cons c cs ih => obtain ⟨b, e⟩ := c; cases b <;> simp [firstError, ih]

/-- The cause raised is one of the listed causes whose condition holds. -/
theorem firstError_mem {cs : List (Bool × ErrCause)} {e : ErrCause} (h : firstError cs = some e) : (true, e) ∈ cs := by
  induction cs with
  | nil => simp at h
  | cons c cs ih =>
    obtain ⟨b, d⟩ := c
    cases b
    · exact List.mem_cons_of_mem _ (ih (by simpa [firstError] using h))
    · simp [firstError] at h; simp [h]

/-- A command does one of two things: it raises (the first check that fires, or its processing's error), or no check fires and
its effect is the next state. -/
theorem runCommand_cases {op : Byte} {s t : State} {cs : List (Bool × ErrCause)} {eff : Except ErrCause State}
    (h : runCommand op s cs eff = .next t) :
    (∃ e, (firstError cs = some e ∨ (firstError cs = none ∧ eff = .error e)) ∧ t = s.raise e op) ∨
      (firstError cs = none ∧ eff = .ok t) := by
  unfold runCommand at h
  cases hc : firstError cs with
  | some e => rw [hc] at h; cases h; exact .inl ⟨e, .inl rfl, rfl⟩
  | none =>
    rw [hc] at h
    cases he : eff with
    | ok u => rw [he] at h; cases h; exact .inr ⟨rfl, rfl⟩
    | error e => rw [he] at h; cases h; exact .inl ⟨e, .inr ⟨rfl, rfl⟩, rfl⟩

/-- A command always answers a next state. -/
theorem runCommand_next (op : Byte) (s : State) (cs : List (Bool × ErrCause)) (eff : Except ErrCause State) :
    ∃ t, runCommand op s cs eff = .next t := by
  unfold runCommand
  cases firstError cs with
  | some e => exact ⟨_, rfl⟩
  | none => cases eff <;> exact ⟨_, rfl⟩

theorem runCommand_error {op : Byte} {s : State} {cs : List (Bool × ErrCause)} {eff : Except ErrCause State} {e : ErrCause}
    (h : firstError cs = some e) : runCommand op s cs eff = .next (s.raise e op) := by simp [runCommand, h]

theorem runCommand_ok {op : Byte} {s t : State} {cs : List (Bool × ErrCause)}
    (h : firstError cs = none) : runCommand op s cs (.ok t) = .next t := by simp [runCommand, h]

@[simp] theorem streamOpen_eq_false {s : State} : s.streamOpen = false ↔ s.coState = .idle := by
  simp [State.streamOpen]

@[simp] theorem streamOpen_eq_true {s : State} : s.streamOpen = true ↔ s.coState ≠ .idle := by
  simp [State.streamOpen]

/-! ## emit (R293) -/

/-- emit into an empty pair of slots takes slot 0. -/
theorem State.emit_slot0 {s : State} (u : List Byte) (h : s.ocount = 0) :
    s.emit u = { s with mem := Memory.storeBytes s.mem obuf0Base u, outLen0 := BitVec.ofNat 17 u.length, ocount := 1 } := by
  simp [State.emit, h]

/-- emit with one slot taken takes slot 1. -/
theorem State.emit_slot1 {s : State} (u : List Byte) (h : s.ocount = 1) :
    s.emit u = { s with mem := Memory.storeBytes s.mem obuf1Base u, outLen1 := BitVec.ofNat 17 u.length, ocount := 2 } := by
  simp [State.emit, h]

theorem State.emit_mem (s : State) (u : List Byte) : (s.emit u).mem = Memory.storeBytes s.mem (s.slotBase) u := by
  unfold State.emit State.slotBase; split <;> rfl

/-- After an emit, the slot's first bytes are the unit's, and every other byte of memory is as before (R97). -/
theorem State.readByte_emit (s : State) (u : List Byte) (a : Nat) :
    (s.emit u).readByte a =
      if s.slotBase ≤ a ∧ a < s.slotBase + u.length then byteAt u (a - s.slotBase) else s.readByte a := by
  have h : (s.emit u).readByte a = (s.writeBytes (s.slotBase) u).readByte a := by
    apply State.readByte_congr <;> simp [State.emit_mem]
  rw [h, State.readByte_writeBytes]

/-! ## The address map (R95) -/

theorem regionOf_csr {a : BitVec 18} (h : a.toNat < 0x1000) : regionOf a = .csr := by simp [regionOf, h]

theorem regionOf_unmapped {a : BitVec 18} (h1 : 0x1000 ≤ a.toNat) (h2 : a.toNat < 0x10000) : regionOf a = .unmapped := by
  unfold regionOf ibufBase obuf0Base obuf1Base; split_ifs <;> first | rfl | omega

theorem regionOf_ibuf {a : BitVec 18} (h1 : 0x10000 ≤ a.toNat) (h2 : a.toNat < 0x20000) : regionOf a = .ibuf := by
  unfold regionOf ibufBase obuf0Base obuf1Base; split_ifs <;> first | rfl | omega

theorem regionOf_obuf {a : BitVec 18} (h : 0x20000 ≤ a.toNat) : regionOf a = .obuf0 ∨ regionOf a = .obuf1 := by
  unfold regionOf ibufBase obuf0Base obuf1Base; split_ifs <;> first | omega | simp

/-- An access to a buffer is no bus error exactly when it is naturally aligned (R93). -/
theorem accessOk_buffer {a : BitVec 18} (wd : Width) (h : 0x10000 ≤ a.toNat) :
    accessOk wd a = (a.toNat % wd.bytes == 0) := by
  unfold accessOk
  by_cases h2 : a.toNat < 0x20000
  · rw [regionOf_ibuf h h2]
  · rcases regionOf_obuf (a := a) (by omega) with h3 | h3 <;> rw [h3]

theorem accessOk_csr {a : BitVec 18} (wd : Width) (h : a.toNat < 0x1000) :
    accessOk wd a = (wd == .w32 && a.toNat % 4 == 0) := by
  unfold accessOk; rw [regionOf_csr h]

theorem accessOk_unmapped {a : BitVec 18} (wd : Width) (h1 : 0x1000 ≤ a.toNat) (h2 : a.toNat < 0x10000) :
    accessOk wd a = decide (a.toNat + wd.bytes ≤ 0x10000) := by
  unfold accessOk; rw [regionOf_unmapped h1 h2]; rfl

/-! ## The checks that compare with CHUNK_MAX (R11) -/

/-- The check of DG_ABSORB and DG_FINAL on LEN, with the number in place (R268, R269). -/
@[simp] theorem decide_chunkMax_lt (n : Nat) : decide (chunkMax < n) = decide (65536 < n) := rfl

/-- The chunk sizes CO_OPEN accepts (R291). -/
theorem badChunkSize_eq_false {m : Mode} {n : Nat} :
    badChunkSize m n = false ↔ 1 ≤ n ∧ n ≤ 65536 ∧ (Mode.isBlock m = true → n % 8 = 0) := by
  unfold badChunkSize
  rw [decide_chunkMax_lt]
  cases Mode.isBlock m <;> simp <;> omega

/-! ## issue and host accesses (R130, R363, R364, R423) -/

/-- A word written to CMD does one of three things: the gate ignores it, it does not decode and raises E_ILLEGAL, or the
decoded command runs. -/
theorem issue_cases (c : Word) (s : State) :
    (s.failed = true ∧ passesGate c = false ∧ issue c s = .next s) ∨
    (¬ (s.failed = true ∧ passesGate c = false) ∧ (∃ e, decode c = .error e) ∧
      issue c s = .next (s.raise .illegal (fieldOp c))) ∨
    (¬ (s.failed = true ∧ passesGate c = false) ∧ ∃ i, decode c = .ok i ∧ issue c s = exec i s) := by
  unfold issue
  by_cases h : s.failed = true ∧ passesGate c = false
  · exact .inl ⟨h.1, h.2, by rw [if_pos h]⟩
  · right
    rw [if_neg h]
    cases hd : decode c with
    | error e => exact .inl ⟨h, ⟨e, rfl⟩, rfl⟩
    | ok i => exact .inr ⟨h, i, rfl, rfl⟩

/-- What a bus write does: it issues a command, writes a CSR, writes IBUF, or is ignored. -/
theorem busWrite_cases (wd : Width) (a : BitVec 18) (v : Word) (s : State) :
    busWrite wd a v s = issue v s ∨ (∃ c, busWrite wd a v s = .next (s.writeCsr c v)) ∨
    (regionOf a = .ibuf ∧ busWrite wd a v s = .next (s.writeBytes a.toNat (leBytes wd.bytes v))) ∨
    busWrite wd a v s = .next s := by
  unfold busWrite
  cases hr : regionOf a <;> simp only [true_and, false_and, reduceCtorEq]
  · cases hc : Csr.ofOffset a.toNat with
    | none => simp
    | some c =>
      cases c
      case cmd => exact .inl rfl
      all_goals exact .inr (.inl ⟨_, rfl⟩)
  all_goals simp

/-- What one step can do: nothing (no interaction is pending), the reset input, a read, a write, or a refusal. -/
theorem step_cases {s t : State} (h : step s = .next t) :
    (s.pending = [] ∧ t = s) ∨
    ∃ x rest, s.pending = x :: rest ∧
      (x = .resetInput ∧ t = { s with pending := rest }.doReset ∨
       (∃ wd a, x = .read wd a ∧ s.accessRefusal wd a = none ∧
          t = { s with pending := rest, observed := s.observed ++ [s.busRead wd a] }) ∨
       (∃ wd a v, x = .write wd a v ∧ s.accessRefusal wd a = none ∧ busWrite wd a v { s with pending := rest } = .next t)) := by
  unfold step hostStep at h
  cases hp : s.pending with
  | nil => rw [hp] at h; cases h; exact .inl ⟨rfl, rfl⟩
  | cons x rest =>
    rw [hp] at h
    refine .inr ⟨x, rest, rfl, ?_⟩
    cases x with
    | resetInput => cases h; exact .inl ⟨rfl, rfl⟩
    | read wd a =>
      refine .inr (.inl ⟨wd, a, rfl, ?_⟩)
      simp only [hostAccess] at h
      cases hr : s.accessRefusal wd a with
      | some r =>
        have : State.accessRefusal { s with pending := rest } wd a = some r := hr
        rw [this] at h; cases h
      | none =>
        have : State.accessRefusal { s with pending := rest } wd a = none := hr
        rw [this] at h; cases h; exact ⟨rfl, rfl⟩
    | write wd a v =>
      refine .inr (.inr ⟨wd, a, v, rfl, ?_⟩)
      simp only [hostAccess] at h
      cases hr : s.accessRefusal wd a with
      | some r =>
        have : State.accessRefusal { s with pending := rest } wd a = some r := hr
        rw [this] at h; cases h
      | none =>
        have : State.accessRefusal { s with pending := rest } wd a = none := hr
        rw [this] at h; exact ⟨rfl, h⟩

/-- Each register answers at its own offset (R70): the table finds it, and a 32-bit access there is no bus error. -/
theorem ofOffset_offset (c : Csr) : Csr.ofOffset c.offset = some c := by cases c <;> decide

/-- A register's offset fits the bus address. -/
theorem addr_toNat (c : Csr) : c.addr.toNat = c.offset := by cases c <;> rfl

/-- A register's bus address lies in the CSR window. -/
theorem regionOf_addr (c : Csr) : regionOf c.addr = .csr := by cases c <;> rfl

/-- A 32-bit access at a register's bus address is no bus error. -/
theorem accessOk_addr (c : Csr) : accessOk .w32 c.addr = true := by cases c <;> rfl

/-- A bus read at a register's address is `csr[NAME]` (R16, R70). -/
theorem busRead_addr (s : State) (c : Csr) : s.busRead .w32 c.addr = s.readCsr c := by
  simp [State.busRead, regionOf_addr, addr_toNat, ofOffset_offset]

/-- A bus write at a register's address issues a command (CMD) or is `writeCsr` (R72). -/
theorem busWrite_addr (s : State) (c : Csr) (v : Word) :
    busWrite .w32 c.addr v s = if c = .cmd then issue v s else .next (s.writeCsr c v) := by
  simp only [busWrite, regionOf_addr, addr_toNat, ofOffset_offset]
  cases c <;> rfl

end Sys2Proof.Machine
end

