-- ==== Sys2Proof/Laws/Engines.lean ====
section
/-! SUPPORT. The engines' small lemmas: lengths, byte orders, bits of a clocked register, and how the block loops split. -/

namespace Sys2Proof.Machine

/-! ## LFSR primitive (R160, R162) -/

/-- With three votes the majority is `maj` (R162). -/
theorem majority_three (a b c : Bool) : majority [a, b, c] = maj a b c := by
  cases a <;> cases b <;> cases c <;> rfl

/-- The bits of a clocked register (R160). -/
theorem getLsbD_clockReg {n : Nat} (fb : List Nat) (r : BitVec n) (k : Nat) :
    (clockReg fb r).getLsbD k =
      if k = 0 then decide (0 < n) && feedback fb r else decide (k < n) && r.getLsbD (k - 1) := by
  unfold clockReg
  cases k with
  | zero => simp
  | succ k => simp

/-! ## Lengths -/

@[simp] theorem length_be32Bytes (w : Word) : (be32Bytes w).length = 4 := rfl
@[simp] theorem length_le32Bytes (w : Word) : (le32Bytes w).length = 4 := rfl
@[simp] theorem length_le64Bytes (x : BitVec 64) : (le64Bytes x).length = 8 := rfl
@[simp] theorem Block.length_bytes (x : Block) : x.bytes.length = 8 := rfl
@[simp] theorem Acc.length_bytes (h : Acc) : h.bytes.length = 16 := rfl

@[simp] theorem length_leBytes (n : Nat) (w : Word) : (leBytes n w).length = n := by
  induction n generalizing w with
  | zero => rfl
  | succ n ih => simp [leBytes, ih]

@[simp] theorem length_ksXor (l : Lfsrs) (d : List Byte) : (ksXor l d).2.length = d.length := by
  induction d generalizing l with
  | nil => rfl
  | cons b d ih => simp [ksXor, ih]

@[simp] theorem length_mapBlocks (f : Block → Block) (n : Nat) (d : List Byte) : (mapBlocks f n d).length = 8 * n := by
  induction n generalizing d with
  | zero => rfl
  | succ n ih => simp [mapBlocks, ih]; omega

@[simp] theorem length_chainBlocks (f : Block → Block → Block × Block) (n : Nat) (w : Block) (d : List Byte) :
    (chainBlocks f n w d).2.length = 8 * n := by
  induction n generalizing w d with
  | zero => rfl
  | succ n ih => simp [chainBlocks, ih]; omega

/-- A block-mode unit gives as many whole blocks as it holds. -/
theorem State.length_cipherUnit (s : State) (u : List Byte) : (s.cipherUnit u).2.length = 8 * (u.length / 8) := by
  unfold State.cipherUnit
  split <;> simp [pcbcEnc, pcbcDec, ecbEnc, ecbDec]

/-- addPadding reaches the next multiple of 8 (R297). -/
theorem length_addPadding (b : List Byte) : (addPadding b).length = 8 * (b.length / 8 + 1) := by
  simp [addPadding]; omega

/-- The padded buffer of a final absorb is a whole number of compression blocks (R262). -/
theorem length_digestPad_mod (buf : List Byte) (cnt : BitVec 64) : (digestPad buf cnt).length % 64 = 0 := by
  simp [digestPad, zeroFill]; omega

theorem State.length_dgRes_absorb (s : State) (data : List Byte) (final : Bool) :
    (s.absorb data final).dgRes.length ≤ 63 := by
  show ((absorbBuffer s data final).drop (64 * ((absorbBuffer s data final).length / 64))).length ≤ 63
  simp; omega

/-! ## Byte orders (R15, R92, R217) -/

theorem be32_be32Bytes (w : Word) : be32 (be32Bytes w) = w := by
  apply BitVec.eq_of_getLsbD_eq
  intro i hi
  simp only [be32, be32Bytes, byteAt, List.getD_cons_zero, List.getD_cons_succ, BitVec.getLsbD_or, BitVec.getLsbD_shiftLeft,
    BitVec.getLsbD_setWidth, BitVec.getLsbD_extractLsb']
  interval_cases i <;> simp

theorem blockOfBytes_bytes (x : Block) : blockOfBytes x.bytes = x := by
  show Block.mk (be32 (be32Bytes x.v0)) (be32 (be32Bytes x.v1)) = x
  rw [be32_be32Bytes, be32_be32Bytes]

/-! ## Loops over blocks -/

/-- Compressing m + n blocks is compressing m, then n more (R262). -/
theorem compressBlocks_add (m n : Nat) (h : Acc) (buf : List Byte) :
    compressBlocks (m + n) h buf = compressBlocks n (compressBlocks m h buf) (buf.drop (64 * m)) := by
  induction m generalizing h buf with
  | zero => simp [compressBlocks]
  | succ m ih =>
    rw [Nat.succ_add]
    simp only [compressBlocks]
    rw [ih, List.drop_drop]
    congr 2
    omega

/-- Blocks beyond the ones compressed do not matter. -/
theorem compressBlocks_append (n : Nat) (h : Acc) (buf rest : List Byte) (hn : 64 * n ≤ buf.length) :
    compressBlocks n h (buf ++ rest) = compressBlocks n h buf := by
  induction n generalizing h buf with
  | zero => rfl
  | succ n ih =>
    simp only [compressBlocks]
    rw [List.take_append_of_le_length (by omega), List.drop_append_of_le_length (by omega), ih _ _ (by simp; omega)]

end Sys2Proof.Machine
end

