-- ==== Sys2Proof/Laws/Commands.lean ====
section
/-! SUPPORT. Every command is one use of the command frame with its own opcode: the one fact about all of `exec` that the
whole-machine claims start from. -/

namespace Sys2Proof.Machine

/-- Each command's meaning is `runCommand` with the command's opcode, some checks and some effect. -/
theorem exec_eq_runCommand (i : Instr) (s : State) :
    ∃ (cs : List (Bool × ErrCause)) (eff : Except ErrCause State), exec i s = runCommand i.opcode s cs eff := by
  cases i <;>
    simp only [exec, execNop, execReset, execOutAck, execLfsrClock, execLfsrOut, execScLoad, execScWarmup, execScStep,
      execBcSetkey, execBcEnc, execBcDec, execCmSetiv, execCmEnc, execCmDec, execDgInit, execDgAbsorb, execDgFinal,
      execCoOpen, execCoUnit, execCoEnd, Instr.opcode] <;>
    exact ⟨_, _, rfl⟩

end Sys2Proof.Machine
end

