-- ==== Sys2Proof/Laws/Coordinator.lean ====
section
/-! SUPPORT. What the coordinator's processing of a unit can do, said once: which registers move and what is emitted. -/

namespace Sys2Proof.Machine

/-- Enciphering a unit changes no field but W, and W only in PCBC (R295, R296). -/
theorem State.cipherUnit_state (s : State) (u : List Byte) :
    ∃ w', (s.cipherUnit u).1 = { s with w := w' } ∧ (s.mode ≠ .pcbc → w' = s.w) := by
  unfold State.cipherUnit
  split <;> exact ⟨_, rfl, by simp_all⟩

/-- What a non-final unit leaves, when it raises nothing (R295): in DIGEST new digest registers and no output; else the engine's
registers moved on and one unit of the same length emitted. -/
theorem State.nonfinal_cases {s t : State} {u : List Byte} (h : s.nonfinal u = .ok t) :
    (∃ l c r, s.mode = .digest ∧ r.length ≤ 63 ∧ t = { s with dgH := l, dgCnt := c, dgRes := r }) ∨
    (∃ l c out, s.mode = .stream ∧ out.length = u.length ∧ t = State.emit { s with lfsr := l, scCnt := c } out) ∨
    (∃ w out, (s.mode = .ecb ∧ w = s.w ∨ s.mode = .pcbc) ∧ out.length = u.length ∧
      t = State.emit { s with w := w } out) := by
  unfold State.nonfinal at h
  obtain ⟨w, hw, hw'⟩ := s.cipherUnit_state u
  have key : s.mode = .ecb ∨ s.mode = .pcbc → (if misaligned u = true then Except.error ErrCause.invalidArg
    else Except.ok ((s.cipherUnit u).1.emit (s.cipherUnit u).2)) = Except.ok t →
    (∃ w out, (s.mode = .ecb ∧ w = s.w ∨ s.mode = .pcbc) ∧ out.length = u.length ∧
      t = State.emit { s with w := w } out) := by
    intro hm h
    split at h
    · cases h
    · rename_i hmis
      injection h with h
      subst h
      refine ⟨w, (s.cipherUnit u).2, ?_, ?_, by rw [hw]⟩
      · rcases hm with hm | hm
        · exact .inl ⟨hm, hw' (by rw [hm]; decide)⟩
        · exact .inr hm
      · rw [State.length_cipherUnit]; simp [misaligned] at hmis; omega
  split at h
  · injection h with h; subst h
    exact .inr (.inl ⟨_, _, _, by assumption, length_ksXor _ _, rfl⟩)
  · injection h with h; subst h
    exact .inl ⟨_, _, _, by assumption, s.length_dgRes_absorb u false, rfl⟩
  · exact .inr (.inr (key (.inl (by assumption)) h))
  · exact .inr (.inr (key (.inr (by assumption)) h))

/-- What a final unit leaves, when it raises nothing (R296, R299): one unit emitted, or in ECB and PCBC two, the second of 8
bytes. -/
theorem State.final_cases {s t : State} {u : List Byte} (h : s.final u = .ok t) :
    (∃ l c r out, s.mode = .digest ∧ r.length ≤ 63 ∧ out.length = 16 ∧
      t = State.emit { s with dgH := l, dgCnt := c, dgRes := r, dgState := .done } out) ∨
    (∃ l c out, s.mode = .stream ∧ out.length = u.length ∧ t = State.emit { s with lfsr := l, scCnt := c } out) ∨
    (∃ w out, (s.mode = .ecb ∧ w = s.w ∨ s.mode = .pcbc) ∧
      (u.length ≤ s.chunkSize.toNat → s.chunkSize.toNat % 8 = 0 → out.length ≤ s.chunkSize.toNat) ∧
      t = State.emit { s with w := w } out) ∨
    (∃ w w' out out', (s.mode = .ecb ∧ w = s.w ∧ w' = s.w ∨ s.mode = .pcbc) ∧ out.length ≤ u.length ∧ out'.length = 8 ∧
        t = State.emit { (State.emit { s with w := w } out) with w := w' } out') := by
  unfold State.final at h
  have key : s.mode = .ecb ∨ s.mode = .pcbc → (match s.dir with | .enc => s.finalEnc u | .dec => s.finalDec u) = Except.ok t →
    (∃ w out, (s.mode = .ecb ∧ w = s.w ∨ s.mode = .pcbc) ∧
      (u.length ≤ s.chunkSize.toNat → s.chunkSize.toNat % 8 = 0 → out.length ≤ s.chunkSize.toNat) ∧
      t = State.emit { s with w := w } out) ∨
    (∃ w w' out out', (s.mode = .ecb ∧ w = s.w ∧ w' = s.w ∨ s.mode = .pcbc) ∧ out.length ≤ u.length ∧ out'.length = 8 ∧
        t = State.emit { (State.emit { s with w := w } out) with w := w' } out') := by
    intro hm h
    have hmw : ∀ w, (s.mode ≠ .pcbc → w = s.w) → (s.mode = .ecb ∧ w = s.w ∨ s.mode = .pcbc) := by
      intro w hw; rcases hm with hm | hm
      · exact .inl ⟨hm, hw (by rw [hm]; decide)⟩
      · exact .inr hm
    obtain hd | hd : s.dir = .enc ∨ s.dir = .dec := by cases s.dir <;> simp
    all_goals rw [hd] at h; dsimp only at h
    · unfold State.finalEnc at h
      split at h
      · split at h
        · dsimp only at h
          injection h with h; subst h
          right
          obtain ⟨w, hw, hw'⟩ := s.cipherUnit_state u
          rw [hw]
          generalize ho : (s.cipherUnit u).2 = out
          have hlen : out.length ≤ u.length := by rw [← ho, State.length_cipherUnit]; omega
          generalize ht : State.emit { s with w := w } out = t1
          obtain ⟨w', hx, hx'⟩ := t1.cipherUnit_state (addPadding [])
          rw [hx]
          refine ⟨w, w', out, (t1.cipherUnit (addPadding [])).2, ?_, hlen, ?_, by rw [ht]⟩
          · rw [← ht] at hx'
            simp only [State.emit_mode, State.emit_w] at hx'
            rcases hm with hm | hm
            · have := hw' (by rw [hm]; decide)
              exact .inl ⟨hm, this, by rw [hx' (by rw [hm]; decide), this]⟩
            · exact .inr hm
          · rw [State.length_cipherUnit, length_addPadding]; rfl
        · injection h with h; subst h
          obtain ⟨w, hw, hw'⟩ := s.cipherUnit_state (addPadding u)
          refine .inl ⟨w, _, hmw _ hw', ?_, by rw [hw]⟩
          rw [State.length_cipherUnit, length_addPadding]; omega
      · split at h
        · cases h
        · injection h with h; subst h
          obtain ⟨w, hw, hw'⟩ := s.cipherUnit_state u
          refine .inl ⟨w, _, hmw _ hw', ?_, by rw [hw]⟩
          rw [State.length_cipherUnit]; omega
    · unfold State.finalDec at h
      obtain ⟨w, hw, hw'⟩ := s.cipherUnit_state u
      split at h
      · cases h
      · split at h
        · split at h
          · rename_i p hp
            injection h with h; subst h
            refine .inl ⟨w, p, hmw _ hw', ?_, by rw [hw]⟩
            unfold removePadding at hp
            split at hp
            · cases hp
            · split at hp
              · cases hp
              · injection hp with hp; subst hp
                rw [List.length_take, State.length_cipherUnit]; omega
          · cases h
        · injection h with h; subst h
          refine .inl ⟨w, _, hmw _ hw', ?_, by rw [hw]⟩
          rw [State.length_cipherUnit]; omega
  split at h
  · injection h with h; subst h
    exact .inr (.inl ⟨_, _, _, by assumption, length_ksXor _ _, rfl⟩)
  · injection h with h; subst h
    unfold State.finalDigest
    dsimp only
    left
    split
    · exact ⟨_, _, _, _, by assumption, State.length_dgRes_absorb _ _ _, Acc.length_bytes _, rfl⟩
    · exact ⟨_, _, _, _, by assumption, State.length_dgRes_absorb _ _ _, Acc.length_bytes _, rfl⟩
  · exact .inr (.inr (key (.inl (by assumption)) h))
  · exact .inr (.inr (key (.inr (by assumption)) h))

/-- What CO_UNIT's effect leaves (R292): the new unit held, after a held one was processed as non-final. -/
theorem State.acceptUnit_cases {s t : State} (h : s.acceptUnit = .ok t) :
    (s.coState ≠ .holding ∧ t = { s with hold := s.ibuf s.len.toNat, coState := .holding }) ∨
    ∃ t', s.coState = .holding ∧ s.nonfinal s.hold = .ok t' ∧
      t = { t' with hold := s.ibuf s.len.toNat, coState := .holding } := by
  unfold State.acceptUnit at h
  split at h
  · split at h
    · injection h with h; subst h
      exact .inr ⟨_, by assumption, by assumption, rfl⟩
    · cases h
  all_goals injection h with h; subst h; exact .inl ⟨by simp_all, rfl⟩

/-- What CO_END's effect leaves (R294): the last unit processed as final, and the stream closed. -/
theorem State.endStream_cases {s t : State} (h : s.endStream = .ok t) :
    ∃ t', s.final s.lastUnit = .ok t' ∧ t = { t' with hold := [], coState := .idle } := by
  unfold State.endStream at h
  split at h
  · injection h with h; subst h
    exact ⟨_, by assumption, rfl⟩
  · cases h

end Sys2Proof.Machine
end

