-- ==== Sys2Proof/Laws/PerInstr.lean ====
section
/-! SUPPORT. A fact about every command as syntax: the low byte of its command word is its opcode, whatever its operands
(R131). One lemma per constructor. -/

namespace Sys2Proof.Laws.OpcodeByte

/-- OP, bits [7:0] of a command's word, is the command's opcode (R131). -/
def Statement (i : Instr) : Prop := fieldOp (encode i) = i.opcode

theorem packN_op (op : BitVec 8) : fieldOp (packN op) = op := by
  apply BitVec.eq_of_getLsbD_eq; intro k hk
  simp [fieldOp, packN, hk, show k < 32 by omega]

theorem packS_op (sel : BitVec 4) (op : BitVec 8) : fieldOp (packS sel op) = op := by
  apply BitVec.eq_of_getLsbD_eq; intro k hk
  simp [fieldOp, packS, hk, show k < 32 by omega]

theorem packT_op (tap : BitVec 5) (sel : BitVec 4) (op : BitVec 8) : fieldOp (packT tap sel op) = op := by
  apply BitVec.eq_of_getLsbD_eq; intro k hk
  simp [fieldOp, packT, hk, show k < 16 by omega, show k < 32 by omega]

theorem packO_op (pad dir : BitVec 1) (mode : BitVec 4) (op : BitVec 8) : fieldOp (packO pad dir mode op) = op := by
  apply BitVec.eq_of_getLsbD_eq; intro k hk
  simp [fieldOp, packO, hk, show k < 13 by omega, show k < 12 by omega, show k < 32 by omega]

theorem nop : Statement .nop := packN_op _
theorem reset : Statement .reset := packN_op _
theorem outAck : Statement .outAck := packN_op _
theorem lfsrClock (n : LfsrId) : Statement (.lfsrClock n) := packS_op _ _
theorem lfsrOut (n : LfsrId) (tap : BitVec 5) : Statement (.lfsrOut n tap) := packT_op _ _ _
theorem scLoad : Statement .scLoad := packN_op _
theorem scWarmup : Statement .scWarmup := packN_op _
theorem scStep : Statement .scStep := packN_op _
theorem bcSetkey : Statement .bcSetkey := packN_op _
theorem bcEnc : Statement .bcEnc := packN_op _
theorem bcDec : Statement .bcDec := packN_op _
theorem cmSetiv : Statement .cmSetiv := packN_op _
theorem cmEnc : Statement .cmEnc := packN_op _
theorem cmDec : Statement .cmDec := packN_op _
theorem dgInit : Statement .dgInit := packN_op _
theorem dgAbsorb : Statement .dgAbsorb := packN_op _
theorem dgFinal : Statement .dgFinal := packN_op _
theorem coOpen (mode : Mode) (dir : Dir) (pad : Bool) : Statement (.coOpen mode dir pad) := packO_op _ _ _ _
theorem coUnit : Statement .coUnit := packN_op _
theorem coEnd : Statement .coEnd := packN_op _

end Sys2Proof.Laws.OpcodeByte
end

