-- ==== Sys2Proof/Tests/Slice0.lean ====
section
/-! SUPPORT. Tests: ill-formed terms are refused; every constructor's word, written out from the spec's encoding, decodes; one
or two single steps per command with the spec's vectors (95_test_vectors.md) as expected results; and a witness for the
hypotheses of every statement that has some. -/

namespace Sys2Proof.Tests

-- The tests are many small theorems: one after another, they need no thread (and no thread's stack) each.
set_option Elab.async false

open Sys2Proof.Machine

/-! ## Helpers -/

/-- The next state of an outcome, if it is one. -/
def nextOf (o : Host.Outcome State Fault Refusal) : Option State :=
  match o with
  | .next s => some s
  | .fault _ => none
  | .refused _ => none

/-- The refusal of an outcome, if it is one. -/
def refusalOf (o : Host.Outcome State Fault Refusal) : Option Refusal :=
  match o with
  | .next _ => none
  | .fault _ => none
  | .refused r => some r

/-- One field of the next state. -/
def after {α : Type} (o : Host.Outcome State Fault Refusal) (f : State → α) : Option α := (nextOf o).map f

/-- The test vectors' key KB (00 01 .. 0F), validated, with 64 rounds. -/
def keyed : State := { State.reset with bcKey := ⟨0x00010203, 0x04050607, 0x08090A0B, 0x0C0D0E0F⟩, bcReady := true }

/-- KB with the chain started at IVB (00 01 .. 07). -/
def chained : State :=
  { keyed with cmIv := ⟨0x00010203, 0x04050607⟩, w := ⟨0x00010203, 0x04050607⟩, cmReady := true }

/-- The stream cipher after SC_LOAD and SC_WARMUP with key and IV zero (V32). -/
def running : State := { State.reset with lfsr := ⟨0x1A746, 0x004400, 0x021F49, 0x0A4A3⟩, scState := .running }

/-- The digest engine after DG_INIT. -/
def absorbing : State := { State.reset with dgH := digestInit, dgState := .absorbing }

/-- A stream opened from `s`. -/
def opened (s : State) (m : Mode) (d : Dir) (p : Bool) (cs : BitVec 17) : State :=
  { s with mode := m, dir := d, pad := p, chunkSize := cs, coState := .opened }

/-- An open stream holding unit u. -/
def holding (s : State) (u : List Byte) : State := { s with coState := .holding, hold := u }

/-- A unit in IBUF, with LEN set to its length. -/
def withUnit (s : State) (u : List Byte) : State := { s.writeBytes 0x10000 u with len := BitVec.ofNat 17 u.length }

/-- "ABCDEFGH" and "IJKLMNOP". -/
def unit1 : List Byte := [0x41, 0x42, 0x43, 0x44, 0x45, 0x46, 0x47, 0x48]
def unit2 : List Byte := [0x49, 0x4A, 0x4B, 0x4C, 0x4D, 0x4E, 0x4F, 0x50]

/-- A state whose next host interaction is `h`. -/
def todo (s : State) (h : HostAction) : State := { s with pending := [h] }

/-! ## WellFormed: the one check there is refuses (R133: R[4] has no output taps) -/

theorem test_lfsrOut_r4_is_ill_formed : ¬ (Instr.lfsrOut .r4 0).WellFormed := by decide
theorem test_lfsrOut_r3_is_well_formed : (Instr.lfsrOut .r3 31).WellFormed := by decide

/-! ## Decode: words written out from the formats of R132 and the opcodes of R137 -/

theorem test_decode_nop : decode 0b00000000000000000000000000000000 = .ok .nop := by decide +kernel
theorem test_decode_reset : decode 0b00000000000000000000000000000001 = .ok .reset := by decide +kernel
theorem test_decode_outAck : decode 0b00000000000000000000000000000010 = .ok .outAck := by decide +kernel
theorem test_decode_lfsrClock : decode 0b00000000000000000000001100010000 = .ok (.lfsrClock .r3) := by decide +kernel
theorem test_decode_lfsrOut : decode 0b00000000000101010000001000010001 = .ok (.lfsrOut .r2 21) := by decide +kernel
theorem test_decode_scLoad : decode 0b00000000000000000000000000100000 = .ok .scLoad := by decide +kernel
theorem test_decode_scWarmup : decode 0b00000000000000000000000000100001 = .ok .scWarmup := by decide +kernel
theorem test_decode_scStep : decode 0b00000000000000000000000000100010 = .ok .scStep := by decide +kernel
theorem test_decode_bcSetkey : decode 0b00000000000000000000000000110000 = .ok .bcSetkey := by decide +kernel
theorem test_decode_bcEnc : decode 0b00000000000000000000000000110001 = .ok .bcEnc := by decide +kernel
theorem test_decode_bcDec : decode 0b00000000000000000000000000110010 = .ok .bcDec := by decide +kernel
theorem test_decode_cmSetiv : decode 0b00000000000000000000000001000000 = .ok .cmSetiv := by decide +kernel
theorem test_decode_cmEnc : decode 0b00000000000000000000000001000001 = .ok .cmEnc := by decide +kernel
theorem test_decode_cmDec : decode 0b00000000000000000000000001000010 = .ok .cmDec := by decide +kernel
theorem test_decode_dgInit : decode 0b00000000000000000000000001010000 = .ok .dgInit := by decide +kernel
theorem test_decode_dgAbsorb : decode 0b00000000000000000000000001010001 = .ok .dgAbsorb := by decide +kernel
theorem test_decode_dgFinal : decode 0b00000000000000000000000001010010 = .ok .dgFinal := by decide +kernel
theorem test_decode_coOpen : decode 0b00000000000000000011001001100000 = .ok (.coOpen .pcbc .dec true) := by decide +kernel
theorem test_decode_coUnit : decode 0b00000000000000000000000001100001 = .ok .coUnit := by decide +kernel
theorem test_decode_coEnd : decode 0b00000000000000000000000001100010 = .ok .coEnd := by decide +kernel

/-- V3 to V11 and V13: words that name no command, each for its reason (R139). -/
theorem test_decode_refuses :
    decode 0x00000010 = .error .selOutOfRange ∧ decode 0x00000510 = .error .selOutOfRange ∧
    decode 0x00000411 = .error .selOutOfRange ∧ decode 0x000E1111 = .error .reservedBitSet ∧
    decode 0x00000003 = .error .undefinedOpcode ∧ decode 0x00000100 = .error .reservedBitSet ∧
    decode 0x80000031 = .error .reservedBitSet ∧ decode 0x00000460 = .error .modeOutOfRange ∧
    decode 0x00004060 = .error .reservedBitSet ∧ decode 0x000000FF = .error .undefinedOpcode := by decide +kernel

/-- The host's reading of table rows: CO_OPEN's row with MODE 1, DIR and PAD 0, and a SEL that names no register. -/
theorem test_decodeTableWord :
    decodeTableWord 32 0x160 = some (.coOpen .ecb .enc false) ∧ decodeTableWord 32 0x10 = none := by decide +kernel

/-- R140: the assembler's spellings give the worked encodings of R143. -/
theorem test_assemble :
    (assemble "LFSR_OUT" ["R1", "14"]).map encode = some 0x000E0111 ∧
    (assemble "CO_OPEN" ["PCBC", "DEC", "PAD"]).map encode = some 0x00003260 ∧
    (assemble "CO_OPEN" ["DIGEST"]).map encode = some 0x00000360 ∧
    assemble "LFSR_OUT" ["R4", "0"] = none := by decide +kernel

/-- V39: the wire strings of the stream key and IV of the pair Q. -/
theorem test_wire_strings :
    bitString 64 "0000000100100011010001010110011110001001101010111100110111101111".toList = some 0x0123456789ABCDEF ∧
    bitString 22 "0010101011110011011110".toList = some 0x0ABCDE := by decide +kernel

/-- R112, R113: the writes of the key KB (20_memory.md R112 with 95_test_vectors.md's conventions) and of the chaining IV IVB. -/
theorem test_wire_bytes :
    wireBlockKey [0, 1, 2, 3, 4, 5, 6, 7, 8, 9, 10, 11, 12, 13, 14, 15] =
      some [.write .w32 0x00050 0x00010203, .write .w32 0x00054 0x04050607, .write .w32 0x00058 0x08090A0B,
        .write .w32 0x0005C 0x0C0D0E0F] ∧
    wireChainIv [0, 1, 2, 3, 4, 5, 6, 7] =
      some [.write .w32 0x00070 0x00010203, .write .w32 0x00074 0x04050607] := by decide +kernel

/-! ## One step of each command -/

/-- From reset, the step that fetches SC_LOAD runs it (how a program comes to run from reset: log 1). -/
theorem test_step_fetches : after (step (State.reset.withFetchWord 32 0x20)) State.scState = some .keyLoaded := by
  decide +kernel

/-- V1. -/
theorem test_nop : after (step (State.reset.withFetchWord 32 0x00)) State.statusWord = some 0x00000000 := by decide +kernel

/-- V102: RESET is the way out of FAILED. -/
theorem test_reset :
    after (exec .reset ({ State.reset with bcRounds := 31 }.raise .invalidArg 0x30)) (fun s => (s.statusWord, s.bcRounds)) =
      some (0, 64) := by decide +kernel

/-- V103. -/
theorem test_outAck :
    after (exec .outAck { State.reset with ocount := 2, outLen0 := 8, outLen1 := 8 })
      (fun s => (s.statusWord, s.outLen0, s.outLen1)) = some (0, 8, 8) := by decide +kernel

/-- V16. -/
theorem test_lfsrClock_r1 :
    after (exec (.lfsrClock .r1) { State.reset with lfsr := ⟨0x40000, 0, 0, 0⟩ }) (·.lfsr.r1) = some 0x00001 := by
  decide +kernel

/-- V24. -/
theorem test_lfsrClock_r4 :
    after (exec (.lfsrClock .r4) { State.reset with lfsr := ⟨0, 0, 0, 0x00801⟩ }) (·.lfsr.r4) = some 0x01003 := by
  decide +kernel

/-- V27: the negated tap matters. -/
theorem test_lfsrOut_taps :
    after (exec (.lfsrOut .r1 12) { State.reset with lfsr := ⟨0x05000, 0, 0, 0⟩ }) State.result = some false ∧
    after (exec (.lfsrOut .r1 14) { State.reset with lfsr := ⟨0x05000, 0, 0, 0⟩ }) State.result = some false ∧
    after (exec (.lfsrOut .r1 15) { State.reset with lfsr := ⟨0x05000, 0, 0, 0⟩ }) State.result = some true := by
  decide +kernel

/-- V30. -/
theorem test_lfsrOut_bad_tap : after (exec (.lfsrOut .r1 13) State.reset) State.statusWord = some 0x00110032 := by
  decide +kernel

/-- V33. -/
theorem test_scLoad :
    after (exec .scLoad { State.reset with scKeyHi := 0x01234567, scKeyLo := 0x89ABCDEF, scIv := 0x0ABCDE }) State.lfsr =
      some ⟨0x7F539, 0x21637F, 0x0EB08C, 0x0A4CB⟩ := by decide +kernel

/-- V32. -/
theorem test_scWarmup :
    after (exec .scWarmup { State.reset with lfsr := ⟨0x08000, 0x010000, 0x040000, 0x00400⟩, scState := .keyLoaded })
      (fun s => (s.lfsr, s.scState, s.scCnt)) =
      some (⟨0x1A746, 0x004400, 0x021F49, 0x0A4A3⟩, .running, 0) := by decide +kernel

/-- V12. -/
theorem test_scWarmup_uninit : after (exec .scWarmup State.reset) State.statusWord = some 0x00210022 := by decide +kernel

/-- V32a. -/
theorem test_scStep :
    after (exec .scStep running) (fun s => (s.lfsr, s.result, s.scCnt)) =
      some (⟨0x34E8C, 0x004400, 0x043E92, 0x14946⟩, false, 1) := by decide +kernel

/-- V47 and V48: 31 rounds are too few, 32 are enough. -/
theorem test_bcSetkey :
    after (exec .bcSetkey { State.reset with bcRounds := 31 }) (fun s => (s.statusWord, s.bcReady)) =
      some (0x00300032, false) ∧
    after (exec .bcSetkey { State.reset with bcRounds := 32 }) (fun s => (s.statusWord, s.bcReady)) = some (0, true) := by
  decide +kernel

/-- V41. -/
theorem test_bcEnc :
    after (exec .bcEnc { keyed with bcRounds := 32, data := ⟨0x41424344, 0x45464748⟩ }) State.data =
      some ⟨0x497DF3D0, 0x72612CB5⟩ := by decide +kernel

/-- V49. -/
theorem test_bcEnc_not_ready : after (exec .bcEnc State.reset) State.statusWord = some 0x00310022 := by decide +kernel

/-- V46. -/
theorem test_bcDec :
    after (exec .bcDec { keyed with data := ⟨0xFCE22584, 0x245503EF⟩ }) State.data = some ⟨0x41424344, 0x45464748⟩ := by
  decide +kernel

/-- V56: CM_SETIV needs no key. -/
theorem test_cmSetiv :
    after (exec .cmSetiv { State.reset with cmIv := ⟨0x00010203, 0x04050607⟩ }) (fun s => (s.w, s.cmReady)) =
      some (⟨0x00010203, 0x04050607⟩, true) := by decide +kernel

/-- V50, its first block. -/
theorem test_cmEnc :
    after (exec .cmEnc { chained with data := ⟨0x41424344, 0x45464748⟩ }) (fun s => (s.data, s.w)) =
      some (⟨0x105F28CB, 0xDDAFF3FD⟩, ⟨0x511D6B8F, 0x98E9B4B5⟩) := by decide +kernel

/-- V51, its first block. -/
theorem test_cmDec :
    after (exec .cmDec { chained with data := ⟨0x105F28CB, 0xDDAFF3FD⟩ }) (fun s => (s.data, s.w)) =
      some (⟨0x41424344, 0x45464748⟩, ⟨0x511D6B8F, 0x98E9B4B5⟩) := by decide +kernel

/-- V67. -/
theorem test_dgInit :
    after (exec .dgInit State.reset) (fun s => (s.dgH, s.dgStatWord)) =
      some (⟨0x67452301, 0xEFCDAB89, 0x98BADCFE, 0x10325476⟩, 0x00000001) := by decide +kernel

/-- V68, its absorb: 30 bytes stay in RES. -/
theorem test_dgAbsorb_residue :
    after (exec .dgAbsorb (withUnit absorbing (List.replicate 30 0x61))) (fun s => (s.dgH, s.dgStatWord, s.dgCnt)) =
      some (digestInit, 0x00001E01, 30) := by decide +kernel

/-- V69: one block compressed and 6 bytes left. -/
theorem test_dgAbsorb_block :
    after (exec .dgAbsorb (withUnit absorbing (List.replicate 70 0x61))) (fun s => (s.dgH, s.dgStatWord)) =
      some (⟨0x89D4FF56, 0x125CD962, 0x69CADE33, 0x0033E325⟩, 0x00000601) := by decide +kernel

/-- V61. -/
theorem test_dgFinal :
    after (exec .dgFinal (withUnit absorbing [0x61, 0x62, 0x63])) (fun s => (s.dgH, s.dgState)) =
      some (⟨0x98500190, 0xB04FD23C, 0x7D3F96D6, 0x727FE128⟩, .done) := by decide +kernel

/-- V64: 56 bytes take a whole extra padding block. -/
theorem test_dgFinal_56 :
    (after (exec .dgFinal (withUnit absorbing (List.replicate 56 0x61))) fun s => String.ofList (wireDigest s.dgH)) =
      some "3b0c8ac703f828b04c6c197006d17218" := by decide +kernel

/-- V95a: readiness is checked before the padding option. V97a: CHUNK_SIZE 0. -/
theorem test_coOpen_errors :
    after (exec (.coOpen .stream .enc true) State.reset) State.statusWord = some 0x00600022 ∧
    after (exec (.coOpen .ecb .enc true) { keyed with chunkSize := 0 }) State.statusWord = some 0x00600032 := by
  decide +kernel

/-- P1's CO_OPEN. -/
theorem test_coOpen :
    after (exec (.coOpen .ecb .enc true) { keyed with chunkSize := 16 }) State.coStatWord = some 0x91 := by decide +kernel

/-- V71, its second CO_UNIT: the first unit is enciphered and the second held. -/
theorem test_coUnit :
    after (exec .coUnit (holding (withUnit (opened keyed .ecb .enc true 16) unit2) unit1))
      (fun s => (s.readBytes 0x20000 8, s.statusWord, s.hold)) =
      some ([0xfc, 0xe2, 0x25, 0x84, 0x24, 0x55, 0x03, 0xef], 0x00000100, unit2) := by decide +kernel

/-- V92: a 25-byte non-final unit in ECB. -/
theorem test_coUnit_misaligned :
    after (exec .coUnit (holding (opened keyed .ecb .enc true 16) (List.replicate 25 0x03))) State.statusWord =
      some 0x00610032 := by decide +kernel

/-- V72: a full final unit gives two units. -/
theorem test_coEnd_full_final_unit :
    after (exec .coEnd (holding (opened keyed .ecb .enc true 8) unit1))
      (fun s => (s.readBytes 0x20000 8, s.readBytes 0x30000 8, s.outLen0, s.outLen1, s.ocount)) =
      some ([0xfc, 0xe2, 0x25, 0x84, 0x24, 0x55, 0x03, 0xef], [0x45, 0xdb, 0x07, 0x21, 0x98, 0x44, 0xc1, 0xf0], 8, 8, 2) := by
  decide +kernel

/-- V78: the decrypted block ends in 0x48, which is no padding. -/
theorem test_coEnd_padding_error :
    after (exec .coEnd (holding (opened keyed .ecb .dec true 16) [0xfc, 0xe2, 0x25, 0x84, 0x24, 0x55, 0x03, 0xef]))
      State.statusWord = some 0x00620042 := by decide +kernel

/-! ## Witnesses: states and operands that meet a statement's hypotheses, clause by clause, at boundary values -/

theorem witness_EncodeThenDecode : (Instr.lfsrOut .r3 31).WellFormed := by decide

theorem witness_DecodeThenEncode : decode 0x001F0311 = .ok (.lfsrOut .r3 31) := by decide +kernel

/-- The largest legal words of each operand format, and the words just outside. -/
theorem witness_IllegalWordsRaise_legal :
    LegalWord 0x00000062 ∧ LegalWord 0x00000410 ∧ LegalWord 0x001F0311 ∧ LegalWord 0x00003360 :=
  ⟨.inl (by decide), .inr (.inl ⟨4, by decide, by decide, rfl⟩),
    .inr (.inr (.inl ⟨3, 31, by decide, by decide, by decide, rfl⟩)),
    .inr (.inr (.inr ⟨3, 1, 1, by decide, by decide, by decide, rfl⟩))⟩

theorem witness_IllegalWordsRaise_illegal : ¬ LegalWord 0x00000411 ∧ State.reset.failed = false := by
  refine ⟨?_, rfl⟩
  have h : (0x00000411 : Word).toNat = 0x411 := rfl
  rintro (h1 | ⟨sel, h1⟩ | ⟨sel, tap, h1⟩ | ⟨mode, dir, pad, h1⟩) <;> rw [h] at h1
  · exact absurd h1 (by decide)
  all_goals omega

theorem witness_StepRunsTheDecodedCommand :
    let s := todo State.reset (commandWrite 0x20)
    s.pending = .write .w32 0x00008 0x20 :: [] ∧ s.busy = false ∧ decode 0x20 = .ok .scLoad ∧ s.failed = false := by
  decide +kernel

/-- The gate's other side: FAILED set, and the word RESET. -/
theorem witness_StepRunsTheDecodedCommand_failed :
    let s := todo (State.reset.raise .state 0x21) (commandWrite 0x01)
    s.pending = .write .w32 0x00008 0x01 :: [] ∧ s.busy = false ∧ decode 0x01 = .ok .reset ∧ s.failed = true := by
  decide +kernel

/-- Each clause of the gate, on the failed state of V12. -/
theorem witness_FailedGateUntilReset :
    let s := State.reset.raise .state 0x21
    s.failed = true ∧ s.busy = false ∧
    ((0x00000003 : Word) ≠ 0x00000000 ∧ (0x00000003 : Word) ≠ 0x00000001 ∧ (0x00000003 : Word) ≠ 0x00000002 ∧
      (todo s (.write .w32 0x00008 0x00000003)).pending = .write .w32 0x00008 0x00000003 :: []) ∧
    (todo s (.write .w32 0x00008 0x00000000)).pending = .write .w32 0x00008 0x00000000 :: [] ∧
    (todo s (.write .w32 0x00008 0x00000001)).pending = .write .w32 0x00008 0x00000001 :: [] ∧
    (todo s (.write .w32 0x00008 0x00000002)).pending = .write .w32 0x00008 0x00000002 :: [] ∧
    (Csr.bcRounds ≠ .cmd ∧ (todo s (wr .bcRounds 32)).pending = .write .w32 Csr.bcRounds.addr 32 :: []) ∧
    (accessOk .w32 0x00004 = true ∧ (todo s (rd .status)).pending = .read .w32 0x00004 :: []) := by decide +kernel

theorem witness_FailedGateUntilReset_next :
    step (todo (State.reset.raise .state 0x21) (commandWrite 0x00)) = .next (State.reset.raise .state 0x21) := rfl

theorem witness_ErrorsArePrecise :
    State.reset.failed = false ∧ issue 0x21 State.reset = .next (State.reset.raise .state 0x21) ∧
    (State.reset.raise .state 0x21).failed = true := ⟨rfl, rfl, rfl⟩

theorem witness_ErrorCausesOfEachCommand :
    Instr.scWarmup.WellFormed ∧ State.reset.failed = false ∧ exec .scWarmup State.reset = .next (State.reset.raise .state 0x21) ∧
    (State.reset.raise .state 0x21).failed = true := ⟨rfl, rfl, rfl, rfl⟩

theorem witness_StreamOpenCheck :
    Instr.scStep.WellFormed ∧ needsIdle .scStep = true ∧ (opened running .stream .enc false 1).coState ≠ .idle ∧
    State.reset.coState = .idle := by decide

theorem witness_StepRefusesOnlyBusErrors :
    (todo State.reset (.read .w8 0x3FFFF)).pending = .read .w8 0x3FFFF :: [] ∧ State.reset.busy = false ∧
    (todo { State.reset with busy := true } (wr .len 0)).pending = .write .w32 Csr.len.addr 0 :: [] := by decide

/-- Every kind of bus error at the edge of its range: the last CSR, the first and last buffer bytes, the last unmapped byte. -/
theorem witness_StepRefusesOnlyBusErrors_refused :
    ((0x00FFF : BitVec 18).toNat < 0x1000 ∧ ¬ (Width.w8 = .w32 ∧ (0x00FFF : BitVec 18).toNat % 4 = 0)) ∧
    ((0x00FFE : BitVec 18).toNat < 0x1000 ∧ ¬ (Width.w32 = .w32 ∧ (0x00FFE : BitVec 18).toNat % 4 = 0)) ∧
    (0x10000 ≤ (0x10001 : BitVec 18).toNat ∧ (0x10001 : BitVec 18).toNat % 2 ≠ 0) ∧
    (0x10000 ≤ (0x3FFFE : BitVec 18).toNat ∧ (0x3FFFE : BitVec 18).toNat % 4 ≠ 0) ∧
    ((0x0FFFF : BitVec 18).toNat < 0x10000 ∧ 0x10000 < (0x0FFFF : BitVec 18).toNat + Width.w16.bytes) := by decide

/-- Every kind of accepted access at the edge of its range. -/
theorem witness_StepRefusesOnlyBusErrors_accepted :
    ((0x00FFC : BitVec 18).toNat < 0x1000 ∧ (0x00FFC : BitVec 18).toNat % 4 = 0) ∧
    0x10000 ≤ (0x3FFFF : BitVec 18).toNat ∧
    (0x10000 ≤ (0x10000 : BitVec 18).toNat ∧ (0x10000 : BitVec 18).toNat % 2 = 0) ∧
    (0x10000 ≤ (0x3FFFC : BitVec 18).toNat ∧ (0x3FFFC : BitVec 18).toNat % 4 = 0) ∧
    (0x1000 ≤ (0x01000 : BitVec 18).toNat ∧ (0x01000 : BitVec 18).toNat + Width.w8.bytes ≤ 0x10000) ∧
    (0x1000 ≤ (0x0FFFE : BitVec 18).toNat ∧ (0x0FFFE : BitVec 18).toNat + Width.w16.bytes ≤ 0x10000) := by decide

theorem witness_ResetState : (todo running .resetInput).pending = .resetInput :: [] := rfl

theorem witness_ResetKeepsTheHostSide :
    (todo running .resetInput).pending = .resetInput :: [] ∧ Memory.lookup running.mem 0x10000 = none := ⟨rfl, rfl⟩

/-- SEL 0, SEL 5 and bit 12, and the two states of the coordinator. -/
theorem witness_LfsrClockResult :
    ((0x00000010 : Word).extractLsb' 0 8 = 0x10 ∧ ((0x00000010 : Word).extractLsb' 8 4).toNat < 1) ∧
    ((0x00000510 : Word).extractLsb' 0 8 = 0x10 ∧ 4 < ((0x00000510 : Word).extractLsb' 8 4).toNat) ∧
    ((0x00001110 : Word).extractLsb' 0 8 = 0x10 ∧ (0x00001110 : Word).extractLsb' 12 20 ≠ 0) ∧
    (opened running .stream .enc false 1).coState ≠ .idle ∧ State.reset.coState = .idle := by decide

/-- SEL 0, SEL 4, bit 12 and bit 21. -/
theorem witness_LfsrOutResult_words :
    ((0x00000011 : Word).extractLsb' 0 8 = 0x11 ∧ ((0x00000011 : Word).extractLsb' 8 4).toNat < 1) ∧
    ((0x00000411 : Word).extractLsb' 0 8 = 0x11 ∧ 3 < ((0x00000411 : Word).extractLsb' 8 4).toNat) ∧
    ((0x00001111 : Word).extractLsb' 0 8 = 0x11 ∧ (0x00001111 : Word).extractLsb' 12 4 ≠ 0) ∧
    ((0x00200111 : Word).extractLsb' 0 8 = 0x11 ∧ (0x00200111 : Word).extractLsb' 21 11 ≠ 0) := by decide

/-- A tap that is an output tap of one register and not of the others, on both sides of the check. -/
theorem witness_LfsrOutResult :
    LfsrId.r1 ≠ .r4 ∧ (opened running .stream .enc false 1).coState ≠ .idle ∧ State.reset.coState = .idle ∧
    ((0 : BitVec 5) ≠ 12 ∧ (0 : BitVec 5) ≠ 14 ∧ (0 : BitVec 5) ≠ 15) ∧ (15 : BitVec 5) = 15 ∧
    ((31 : BitVec 5) ≠ 9 ∧ (31 : BitVec 5) ≠ 13 ∧ (31 : BitVec 5) ≠ 16) ∧ (9 : BitVec 5) = 9 ∧
    ((12 : BitVec 5) ≠ 13 ∧ (12 : BitVec 5) ≠ 16 ∧ (12 : BitVec 5) ≠ 18) ∧ (18 : BitVec 5) = 18 := by decide

theorem witness_ScLoadResult :
    (opened running .stream .enc false 1).coState ≠ .idle ∧ State.reset.coState = .idle := by decide

theorem witness_ScWarmupResult :
    (State.reset.coState ≠ .idle ∨ State.reset.scState ≠ .keyLoaded) ∧
    ((opened { running with scState := .keyLoaded } .stream .enc false 1).coState ≠ .idle) ∧
    ({ running with scState := .keyLoaded }.coState = .idle ∧ { running with scState := .keyLoaded }.scState = .keyLoaded) := by
  decide

theorem witness_ScStepResult :
    (State.reset.coState ≠ .idle ∨ State.reset.scState ≠ .running) ∧ (opened running .stream .enc false 1).coState ≠ .idle ∧
    (running.coState = .idle ∧ running.scState = .running) := by decide

/-- A state whose registers are the statement's, and the last bit of a one-byte unit. -/
theorem witness_KeystreamBits :
    running.lfsr = ⟨0x1A746, 0x004400, 0x021F49, 0x0A4A3⟩ ∧ 0 < ([0x61] : List Byte).length ∧ 7 < 8 := by decide

/-- The control bits of V32a: 0, 1, 1, with majority 1. -/
theorem witness_MajorityClockStep :
    false = running.lfsr.r4.getLsbD 3 ∧ true = running.lfsr.r4.getLsbD 7 ∧ true = running.lfsr.r4.getLsbD 10 ∧
    true = ((false && true) || (false && true) || (true && true)) := by decide

theorem witness_BcSetkeyResult :
    (opened keyed .ecb .enc true 8).coState ≠ .idle ∧
    ({ State.reset with bcRounds := 31 }.coState = .idle ∧ { State.reset with bcRounds := 31 }.bcRounds.toNat < 32) ∧
    ({ State.reset with bcRounds := 32 }.coState = .idle ∧ 32 ≤ { State.reset with bcRounds := 32 }.bcRounds.toNat) := by decide

theorem witness_BcEncAndDecResults :
    (State.reset.coState ≠ .idle ∨ State.reset.bcReady = false) ∧ (opened keyed .ecb .enc true 8).coState ≠ .idle ∧
    (keyed.coState = .idle ∧ keyed.bcReady = true) := by decide

theorem witness_EcbBlocksAreIndependent :
    (unit1 ++ unit2).length % 8 = 0 ∧ 0 < (unit1 ++ unit2).length / 8 ∧ 1 < (unit1 ++ unit2).length / 8 := by decide

/-- Two blocks, finished last first. -/
theorem witness_LaneOrderIsUnobservable : ∀ j, j < (unit1 ++ unit2).length / 8 → j ∈ [1, 0] := by decide

theorem witness_CmSetivResult :
    (opened keyed .ecb .enc true 8).coState ≠ .idle ∧ State.reset.coState = .idle := by decide

theorem witness_CmEncAndDecResults :
    (keyed.coState ≠ .idle ∨ keyed.bcReady = false ∨ keyed.cmReady = false) ∧ State.reset.bcReady = false ∧
    (opened chained .pcbc .enc true 8).coState ≠ .idle ∧
    (chained.coState = .idle ∧ chained.bcReady = true ∧ chained.cmReady = true) := by decide

theorem witness_PcbcRoundTrip : ([] : List Byte).length % 8 = 0 ∧ (unit1 ++ unit2).length % 8 = 0 := by decide

theorem witness_BlockSegmentation : ∀ u ∈ [unit1, [], unit1 ++ unit2], u.length % 8 = 0 := by decide

theorem witness_DgInitResult :
    (opened absorbing .digest .enc false 3).coState ≠ .idle ∧ State.reset.coState = .idle := by decide

/-- LEN on both sides of CHUNK_MAX. -/
theorem witness_DgAbsorbAndFinalResults :
    (State.reset.coState ≠ .idle ∨ State.reset.dgState ≠ .absorbing) ∧ (opened absorbing .digest .enc false 3).coState ≠ .idle ∧
    (absorbing.coState = .idle ∧ absorbing.dgState = .absorbing ∧ 65536 < { absorbing with len := 0x10001 }.len.toNat) ∧
    { absorbing with len := 0x10000 }.len.toNat ≤ 65536 := by decide

/-- Last bytes 0, 9, 1 and 8. -/
theorem witness_RemovePaddingChecks :
    ((0 : Byte).toNat < 1 ∨ 8 < (0 : Byte).toNat) ∧ ((9 : Byte).toNat < 1 ∨ 8 < (9 : Byte).toNat) ∧
    (1 ≤ (1 : Byte).toNat ∧ (1 : Byte).toNat ≤ 8) ∧ (1 ≤ (8 : Byte).toNat ∧ (8 : Byte).toNat ≤ 8) := by decide

theorem witness_FullFinalUnit :
    let s := opened chained .pcbc .enc true 8
    (s.mode = .ecb ∨ s.mode = .pcbc) ∧ s.dir = .enc ∧ unit1.length % 8 = 0 := by decide

/-- The refused openings and an accepted one, each with the two conditions as the statement spells them. -/
theorem witness_CoOpenResult :
    (State.reset.coState = .idle ∧ ¬ (State.reset.scState = .running)) ∧ (opened keyed .ecb .enc true 8).coState ≠ .idle ∧
    (running.coState = .idle ∧ running.scState = .running ∧ (Mode.stream = .stream ∧ true = true)) ∧
    (keyed.bcReady = true ∧ { keyed with chunkSize := 65536 }.chunkSize.toNat % 8 = 0 ∧
      ¬ (65536 < { keyed with chunkSize := 65536 }.chunkSize.toNat) ∧ { keyed with chunkSize := 12 }.chunkSize.toNat % 8 ≠ 0 ∧
      65536 < { keyed with chunkSize := 65537 }.chunkSize.toNat ∧ { keyed with chunkSize := 0 }.chunkSize.toNat < 1) := by decide

/-- LEN just above CHUNK_SIZE, and equal to it. -/
theorem witness_CoUnitChecksAndFirstUnit :
    let s := opened keyed .ecb .enc true 16
    (State.reset.coState = .idle ∨ State.reset.ocount ≠ 0) ∧ { s with ocount := 1 }.ocount ≠ 0 ∧
    (s.coState ≠ .idle ∧ s.ocount = 0 ∧ { s with len := 17 }.chunkSize.toNat < { s with len := 17 }.len.toNat) ∧
    (s.coState = .opened ∧ { s with len := 16 }.len.toNat ≤ s.chunkSize.toNat) := by decide

theorem witness_CoUnitProcessesTheHeldUnit :
    let ok := fun (s : State) => s.coState = .holding ∧ s.ocount = 0 ∧ s.len.toNat ≤ s.chunkSize.toNat
    (ok (holding (opened running .stream .enc false 1) [0x61]) ∧ (opened running .stream .enc false 1).mode = .stream) ∧
    (ok (holding (opened absorbing .digest .enc false 3) [0x61]) ∧ (opened absorbing .digest .enc false 3).mode = .digest) ∧
    (ok (holding (opened keyed .ecb .enc true 8) [0x61]) ∧ [0x61].length % 8 ≠ 0) ∧
    (ok (holding (opened keyed .ecb .dec false 8) unit1) ∧ (opened keyed .ecb .dec false 8).mode = .ecb ∧ unit1.length % 8 = 0) ∧
    (ok (holding (opened chained .pcbc .enc true 8) unit1) ∧ (opened chained .pcbc .enc true 8).mode = .pcbc) := by decide

/-- The STREAM and DIGEST clauses, with a unit held and with none delivered. -/
theorem witness_CoEndChecksStreamAndDigest :
    (State.reset.coState = .idle ∨ State.reset.ocount ≠ 0) ∧
    ((holding (opened running .stream .enc false 3) [0x61]).coState = .holding ∧
      [0x61] = (holding (opened running .stream .enc false 3) [0x61]).hold ∧ running.ocount = 0 ∧
      (opened running .stream .enc false 3).mode = .stream) ∧
    ((opened absorbing .digest .enc false 3).coState = .opened ∧ absorbing.ocount = 0 ∧
      (opened absorbing .digest .enc false 3).mode = .digest) := by decide

/-- The four clauses: unpadded and misaligned, unpadded and aligned, padded short, padded full. -/
theorem witness_CoEndEncrypts :
    let ok := fun (s : State) (u : List Byte) => s.coState = .holding ∧ u = s.hold ∧ s.ocount = 0 ∧ s.dir = .enc ∧ s.mode = .pcbc
    (ok (holding (opened chained .pcbc .enc false 8) [0x61]) [0x61] ∧ [0x61].length % 8 ≠ 0) ∧
    ok (holding (opened chained .pcbc .enc false 8) unit1) unit1 ∧
    (ok (holding (opened chained .pcbc .enc true 16) unit1) unit1 ∧ unit1.length ≠ (16 : BitVec 17).toNat) ∧
    (ok (holding (opened chained .pcbc .enc true 8) unit1) unit1 ∧ unit1.length = (8 : BitVec 17).toNat) ∧
    ((opened keyed .ecb .enc true 8).coState = .opened ∧ (opened keyed .ecb .enc true 8).mode = .ecb) := by decide

/-- The four clauses: misaligned, unpadded, a bad padding (V78) and a good one (V75's ciphertext of the empty payload). -/
theorem witness_CoEndDecrypts :
    let ok := fun (s : State) (u : List Byte) => s.coState = .holding ∧ u = s.hold ∧ s.ocount = 0 ∧ s.dir = .dec ∧ s.mode = .ecb
    (ok (holding (opened keyed .ecb .dec true 16) [0x61]) [0x61] ∧ [0x61].length % 8 ≠ 0) ∧
    ok (holding (opened keyed .ecb .dec false 16) unit1) unit1 ∧
    (ok (holding (opened keyed .ecb .dec true 16) [0xfc, 0xe2, 0x25, 0x84, 0x24, 0x55, 0x03, 0xef])
        [0xfc, 0xe2, 0x25, 0x84, 0x24, 0x55, 0x03, 0xef] ∧
      removePadding (ecbDec keyed.bcKey 64 [0xfc, 0xe2, 0x25, 0x84, 0x24, 0x55, 0x03, 0xef]) = .error .padding) ∧
    removePadding (ecbDec keyed.bcKey 64 [0x45, 0xdb, 0x07, 0x21, 0x98, 0x44, 0xc1, 0xf0]) = .ok [] := by decide +kernel

/-- A stream opened legally and holding a unit one byte short of CHUNK_SIZE. -/
theorem witness_EncryptedUnitDecrypts :
    let s := holding (opened chained .pcbc .enc true 8) [0x41, 0x42, 0x43, 0x44, 0x45, 0x46, 0x47]
    s.Inv ∧ s.coState = .holding ∧ (s.mode = .ecb ∨ s.mode = .pcbc) ∧ s.dir = .enc ∧ s.pad = true ∧ s.ocount = 0 ∧
    s.hold.length ≠ s.chunkSize.toNat ∧ (nextOf (exec .coEnd s)).isSome = true := by
  simp only [State.Inv, State.MemOk, State.SizesOk, State.StatusOk, State.KeyOk, State.HoldOk, State.StreamOk]
  decide +kernel

theorem witness_CommandsWriteOnlyTheirState :
    Instr.scStep ≠ .reset ∧ (nextOf (exec .scStep running)).isSome = true := by decide +kernel

theorem witness_CommandsKeepOtherMemory :
    let s := holding (opened keyed .ecb .enc true 8) unit1
    s.Inv ∧ Instr.coEnd ≠ .reset ∧ (nextOf (exec .coEnd s)).isSome = true := by
  simp only [State.Inv, State.MemOk, State.SizesOk, State.StatusOk, State.KeyOk, State.HoldOk, State.StreamOk]
  decide +kernel

/-- An open stream and a step that issues SC_LOAD, which raises E_STATE. -/
theorem witness_OpenStreamFreezesEngines :
    let s := todo (opened running .stream .enc false 1) (commandWrite 0x20)
    s.coState ≠ .idle ∧ (nextOf (step s)).isSome = true ∧ s.pending = [.write .w32 0x00008 0x20] := by decide +kernel

/-- The clauses: a reserved offset, CMD, a read-only register, a locked register with a stream open, and one with none. -/
theorem witness_CsrWriteRules :
    State.reset.busy = false ∧
    ((0x00FFC : BitVec 18).toNat < 0x1000 ∧ (0x00FFC : BitVec 18).toNat % 4 = 0 ∧
      (0x00FFC : BitVec 18).toNat ∉ resetColumn.map Prod.fst ∧
      (todo State.reset (.write .w32 0x00FFC 1)).pending = .write .w32 0x00FFC 1 :: []) ∧
    (todo State.reset (wr .cmd 0)).pending = .write .w32 Csr.cmd.addr 0 :: [] ∧
    Csr.status.access = .ro ∧
    (Csr.bcRounds.locked = true ∧ (opened keyed .ecb .enc true 8).coState ≠ .idle) ∧
    (Csr.bcRounds.access = .rw ∧ ¬ (Csr.bcRounds.locked = true ∧ State.reset.coState ≠ .idle)) ∧
    (Csr.len.access = .rw ∧ ¬ (Csr.len.locked = true ∧ (opened keyed .ecb .enc true 8).coState ≠ .idle)) ∧
    (todo (opened keyed .ecb .enc true 8) (.write .w32 0x00068 7)).pending = .write .w32 0x00068 7 :: [] ∧
    ((todo keyed (.write .w32 0x00074 7)).coState = .idle ∧
      (todo keyed (.write .w32 0x00074 7)).pending = .write .w32 0x00074 7 :: []) := by decide

/-- The first and last reserved offsets, and both ends of the unmapped range. -/
theorem witness_ReservedAndUnmapped :
    let ok := fun (wd : Width) (a : BitVec 18) =>
      (a.toNat < 0x1000 ∧ wd = .w32 ∧ a.toNat % 4 = 0 ∧ a.toNat ∉ resetColumn.map Prod.fst) ∨
        (0x1000 ≤ a.toNat ∧ a.toNat + wd.bytes ≤ 0x10000)
    State.reset.busy = false ∧ ok .w32 0x0001C ∧ ok .w32 0x00FFC ∧ ok .w8 0x01000 ∧ ok .w8 0x0FFFF := by decide

/-- Both ends of IBUF and of the output slots. -/
theorem witness_BufferAccesses :
    let ok := fun (wd : Width) (a : BitVec 18) => 0x10000 ≤ a.toNat ∧ a.toNat % wd.bytes = 0
    State.reset.busy = false ∧ (ok .w32 0x10000 ∧ (0x10000 : BitVec 18).toNat < 0x20000) ∧
    (ok .w32 0x1FFFC ∧ (0x1FFFC : BitVec 18).toNat < 0x20000) ∧ (ok .w16 0x20000 ∧ 0x20000 ≤ (0x20000 : BitVec 18).toNat) ∧
    ok .w8 0x3FFFF := by decide

/-- Two reads of STATUS, and the state between them. -/
theorem witness_ReadsHaveNoSideEffect :
    let s := { State.reset with pending := [.read .w32 0x00004, .read .w32 0x00004] }
    s.pending = .read .w32 0x00004 :: .read .w32 0x00004 :: [] ∧ (nextOf (step s)).isSome = true := by decide +kernel

/-- The first and the last offset of the table, and DG_STAT with the longest RES. -/
theorem witness_StatusWordLayouts :
    let s := todo { State.reset with dgRes := List.replicate 63 0 } (.read .w32 0x000A8)
    ((0x000, .id, 0x42544343) ∈ s.csrFields ∧ (Csr.id = .dgStat → s.dgRes.length < 128)) ∧
    ((0x0B4, .outLen1, 0) ∈ s.csrFields ∧ (Csr.outLen1 = .dgStat → s.dgRes.length < 128)) ∧
    ((0x0A8, .dgStat, 63 * 256) ∈ s.csrFields ∧ (Csr.dgStat = .dgStat → s.dgRes.length < 128)) ∧
    s.busy = false ∧ s.pending = .read .w32 (BitVec.ofNat 18 0x0A8) :: [] := by decide +kernel

/-- Bit strings: of the right length, one too short and one with a character that is no binary digit. -/
theorem witness_WireBitStrings :
    ((List.replicate 22 '1').length = 22 ∧ ∀ c ∈ List.replicate 22 '1', c = '0' ∨ c = '1') ∧
    ((List.replicate 64 '0').length = 64 ∧ ∀ c ∈ List.replicate 64 '0', c = '0' ∨ c = '1') ∧
    (List.replicate 21 '1').length ≠ 22 ∧ (List.replicate 63 '1').length ≠ 64 ∧
    ('2' ∈ ('2' :: List.replicate 21 '1') ∧ '2' ≠ '0' ∧ '2' ≠ '1') :=
  ⟨⟨rfl, fun _ hc => .inr (List.eq_of_mem_replicate hc)⟩, ⟨rfl, fun _ hc => .inl (List.eq_of_mem_replicate hc)⟩,
    by simp, by simp, by simp, by simp, by simp⟩

/-- Byte strings: a block key of 16 bytes, a chaining IV of 8, and lengths one off. -/
theorem witness_WireBitStrings_bytes :
    (unit1 ++ unit2).length = 16 ∧ unit1.length = 8 ∧ (unit1 ++ unit2).tail.length ≠ 16 ∧ unit1.tail.length ≠ 8 := by decide

/-- A state of the invariant that is not the reset state, and a step from it. -/
theorem witness_InvariantPreserved :
    let s := todo (holding (opened chained .pcbc .enc true 8) unit1) (commandWrite 0x62)
    s.Inv ∧ (nextOf (step s)).isSome = true := by
  simp only [State.Inv, State.MemOk, State.SizesOk, State.StatusOk, State.KeyOk, State.HoldOk, State.StreamOk]
  decide +kernel

end Sys2Proof.Tests
end

section
/-! # Settling the statements about the bus and the CSRs (10_state.md, 20_memory.md)

The address map and the bus are used through their laws: an access that is no bus error reads `busRead` or runs `busWrite`, and
an access at a register's address is `readCsr` or `writeCsr`. Each statement is then about one of these four functions. -/

namespace Sys2Proof.Machine

/-! ## A step whose access is no bus error (R93, R423) -/

theorem accessRefusal_eq_none {s : State} {wd : Width} {a : BitVec 18} (hb : s.busy = false) (hok : accessOk wd a = true) :
    s.accessRefusal wd a = none := by
  simp [State.accessRefusal, hb, hok]

theorem step_read {s : State} {wd : Width} {a : BitVec 18} {rest : List HostAction} (hb : s.busy = false)
    (hok : accessOk wd a = true) (hp : s.pending = .read wd a :: rest) :
    step s = .next { s with pending := rest, observed := s.observed ++ [s.busRead wd a] } := by
  have href : State.accessRefusal { s with pending := rest } wd a = none := accessRefusal_eq_none hb hok
  simp only [step, hostStep, hp, hostAccess, href]
  rfl

theorem step_write {s : State} {wd : Width} {a : BitVec 18} {v : Word} {rest : List HostAction} (hb : s.busy = false)
    (hok : accessOk wd a = true) (hp : s.pending = .write wd a v :: rest) :
    step s = busWrite wd a v { s with pending := rest } := by
  have href : State.accessRefusal { s with pending := rest } wd a = none := accessRefusal_eq_none hb hok
  simp only [step, hostStep, hp, hostAccess, href]

theorem step_readCsr {s : State} {c : Csr} {rest : List HostAction} (hb : s.busy = false)
    (hp : s.pending = .read .w32 c.addr :: rest) :
    step s = .next { s with pending := rest, observed := s.observed ++ [s.readCsr c] } := by
  rw [step_read hb (accessOk_addr c) hp, busRead_addr]

theorem step_writeCsr {s : State} {c : Csr} {v : Word} {rest : List HostAction} (hb : s.busy = false)
    (hp : s.pending = .write .w32 c.addr v :: rest) :
    step s = if c = .cmd then issue v { s with pending := rest }
      else .next (State.writeCsr { s with pending := rest } c v) := by
  rw [step_write hb (accessOk_addr c) hp, busWrite_addr]

/-! ## Reserved offsets and unmapped addresses (R71, R94) -/

/-- The reset column has one row for each register of the CSR map, at the register's offset. -/
theorem resetColumn_offsets : resetColumn.map Prod.fst = Csr.all.map Csr.offset := rfl

theorem ofOffset_reserved {o : Nat} (h : o ∉ resetColumn.map Prod.fst) : Csr.ofOffset o = none := by
  rw [resetColumn_offsets, List.mem_map] at h
  rw [Csr.ofOffset, List.find?_eq_none]
  exact fun c hc heq => h ⟨c, hc, by simpa using heq⟩

theorem busRead_reserved {a : BitVec 18} (s : State) (wd : Width) (ha : a.toNat < 0x1000)
    (h : a.toNat ∉ resetColumn.map Prod.fst) : s.busRead wd a = 0 := by
  simp only [State.busRead, regionOf_csr ha, ofOffset_reserved h]

theorem busWrite_reserved {a : BitVec 18} (s : State) (wd : Width) (v : Word) (ha : a.toNat < 0x1000)
    (h : a.toNat ∉ resetColumn.map Prod.fst) : busWrite wd a v s = .next s := by
  simp only [busWrite, regionOf_csr ha, ofOffset_reserved h]

theorem busRead_unmapped {a : BitVec 18} (s : State) (wd : Width) (h1 : 0x1000 ≤ a.toNat) (h2 : a.toNat < 0x10000) :
    s.busRead wd a = 0 := by
  simp only [State.busRead, regionOf_unmapped h1 h2]

theorem busWrite_unmapped {a : BitVec 18} (s : State) (wd : Width) (v : Word) (h1 : 0x1000 ≤ a.toNat)
    (h2 : a.toNat < 0x10000) : busWrite wd a v s = .next s := by
  simp only [busWrite, regionOf_unmapped h1 h2]

/-- An aligned 32-bit access in the CSR window is no bus error (R93). -/
theorem accessOk_csr_aligned {a : BitVec 18} (ha : a.toNat < 0x1000) (h4 : a.toNat % 4 = 0) : accessOk .w32 a = true := by
  simp [accessOk_csr .w32 ha, h4]

theorem Width.bytes_pos (wd : Width) : 0 < wd.bytes := by cases wd <;> decide

/-! ## What a CSR write stores (R72) -/

/-- A register of n bits keeps the low n bits of the word written to it. -/
theorem setWidth_setWidth_eq_and (v : Word) {n : Nat} (hn : n ≤ 32) :
    (v.setWidth n).setWidth 32 = v &&& BitVec.ofNat 32 (2 ^ n - 1) := by
  apply BitVec.eq_of_toNat_eq
  have hlt : 2 ^ n - 1 < 2 ^ 32 := by have := Nat.pow_le_pow_right (n := 2) (by decide) hn; omega
  rw [BitVec.toNat_setWidth_of_le hn, BitVec.toNat_setWidth, BitVec.toNat_and, BitVec.toNat_ofNat, Nat.mod_eq_of_lt hlt,
    Nat.and_two_pow_sub_one_eq_mod]

/-- The register written reads back the written bits it holds. -/
theorem readCsr_storeCsr_same {s : State} {c : Csr} (v : Word) (h : c.access = .rw) :
    (s.storeCsr c v).readCsr c = v &&& c.writeMask := by
  cases c
  case len | chunkSize | scR4 => exact setWidth_setWidth_eq_and v (n := 17) (by decide)
  case scR1 => exact setWidth_setWidth_eq_and v (n := 19) (by decide)
  case scIv | scR2 => exact setWidth_setWidth_eq_and v (n := 22) (by decide)
  case scR3 => exact setWidth_setWidth_eq_and v (n := 23) (by decide)
  case scKeyLo | scKeyHi | bcKey0 | bcKey1 | bcKey2 | bcKey3 | bcRounds | data0 | data1 | cmIv0 | cmIv1 =>
    exact (BitVec.and_allOnes (x := v)).symm
  all_goals cases h

/-- A write stores into no register but its own, BC_READY apart. A read-only register reads fields that no write reaches. -/
theorem readCsr_storeCsr_ne (s : State) {c c' : Csr} (v : Word) (hne : c' ≠ c) (hst : c' ≠ .bcStat) :
    (s.storeCsr c v).readCsr c' = s.readCsr c' := by
  cases c'
  case bcStat => exact absurd rfl hst
  case len | chunkSize | scKeyLo | scKeyHi | scIv | scR1 | scR2 | scR3 | scR4 | bcKey0 | bcKey1 | bcKey2 | bcKey3 | bcRounds
      | data0 | data1 | cmIv0 | cmIv1 =>
    cases c <;> simp [State.storeCsr, State.readCsr] at hne ⊢
  all_goals simp [State.readCsr, State.statusWord, State.coStatWord, State.dgStatWord]

theorem bcReady_storeCsr (s : State) (c : Csr) (v : Word) :
    (s.storeCsr c v).bcReady = if c.clearsReady then false else s.bcReady := by
  cases c <;> rfl

theorem readCsr_bcStat_storeCsr (s : State) (c : Csr) (v : Word) :
    (s.storeCsr c v).readCsr .bcStat = if c.clearsReady then 0 else s.readCsr .bcStat := by
  simp only [State.readCsr, bcReady_storeCsr]
  split <;> rfl

/-- R72 (3): a write to an RW register that no open stream locks stores the word. -/
theorem step_storeCsr {s : State} (c : Csr) {v : Word} {rest : List HostAction} (hb : s.busy = false)
    (hrw : c.access = .rw) (hl : ¬ (c.locked = true ∧ s.coState ≠ .idle)) (hp : s.pending = .write .w32 c.addr v :: rest) :
    step s = .next (State.storeCsr { s with pending := rest } c v) := by
  have hcmd : c ≠ .cmd := by rintro rfl; cases hrw
  rw [step_writeCsr hb hp, if_neg hcmd, State.writeCsr, if_neg (by simp [hrw]), if_neg hl]

/-- R72 (1), (2): a write to a read-only register, or to a locked one while a stream is open, is ignored. -/
theorem step_ignoredCsr {s : State} {c : Csr} {v : Word} {rest : List HostAction} (hb : s.busy = false)
    (h : c.access = .ro ∨ (c.locked = true ∧ s.coState ≠ .idle)) (hp : s.pending = .write .w32 c.addr v :: rest) :
    step s = .next { s with pending := rest } := by
  have hcmd : c ≠ .cmd := by rintro rfl; simp [Csr.access, Csr.locked] at h
  rw [step_writeCsr hb hp, if_neg hcmd, State.writeCsr]
  by_cases hro : c.access = .ro
  · rw [if_pos hro]
  · rw [if_neg hro, if_pos (h.resolve_left hro)]

/-! ## The number a register reads as (R54, R70) -/

@[simp] theorem toNat_bitWord (b : Bool) : (bitWord b).toNat = b.toNat := by cases b <;> rfl

/-- A field of n bits placed above the k bits of the rest of the word. -/
theorem toNat_field_or {n k : Nat} (x : BitVec n) (w : Word) (hn : n + k ≤ 32) (hw : w.toNat < 2 ^ k) :
    ((x.setWidth 32 <<< k) ||| w).toNat = x.toNat * 2 ^ k + w.toNat := by
  have hx : x.toNat * 2 ^ k < 2 ^ 32 := calc
    x.toNat * 2 ^ k < 2 ^ n * 2 ^ k := Nat.mul_lt_mul_of_pos_right x.isLt (Nat.two_pow_pos k)
    _ = 2 ^ (n + k) := (Nat.pow_add ..).symm
    _ ≤ 2 ^ 32 := Nat.pow_le_pow_right (by decide) hn
  rw [BitVec.toNat_or, BitVec.toNat_shiftLeft, BitVec.toNat_setWidth_of_le (by omega), Nat.shiftLeft_eq, Nat.mod_eq_of_lt hx,
    ← Nat.shiftLeft_eq, ← Nat.shiftLeft_add_eq_or_of_lt hw]

/-- STATUS: its fields from the top down (R54). -/
theorem toNat_statusWord (s : State) :
    s.statusWord.toNat = s.errOp.toNat * 65536 + s.ocount.toNat * 256 + (errField s.err).toNat * 16 + s.failed.toNat * 2 +
      s.busy.toNat := by
  have hbusy := s.busy.toNat_le
  have hfailed := s.failed.toNat_le
  have herr := (errField s.err).isLt
  have hocount := s.ocount.isLt
  have h1 := toNat_field_or (k := 1) (BitVec.ofBool s.failed) (bitWord s.busy) (by decide) (by rw [toNat_bitWord]; omega)
  rw [toNat_bitWord, BitVec.toNat_ofBool] at h1
  have h4 := toNat_field_or (k := 4) (errField s.err) _ (by decide) (h1.trans_lt (by omega))
  rw [h1] at h4
  have h8 := toNat_field_or (k := 8) s.ocount _ (by decide) (h4.trans_lt (by omega))
  rw [h4] at h8
  have h16 := toNat_field_or (k := 16) s.errOp _ (by decide) (h8.trans_lt (by omega))
  rw [h8] at h16
  simp only [State.statusWord, BitVec.or_assoc]
  exact h16.trans (by omega)

/-- CO_STAT: its fields from the top down (R49, R50). -/
theorem toNat_coStatWord (s : State) :
    s.coStatWord.toNat = s.pad.toNat * 128 + s.dir.code.toNat * 64 + s.mode.code.toNat * 16 + s.coState.code.toNat := by
  have hstate := s.coState.code.isLt
  have hmode := s.mode.code.isLt
  have hdir := s.dir.code.isLt
  have h0 : (s.coState.code.setWidth 32).toNat = s.coState.code.toNat := BitVec.toNat_setWidth_of_le (by decide)
  have h4 := toNat_field_or (k := 4) s.mode.code _ (by decide) (h0.trans_lt (by omega))
  rw [h0] at h4
  have h6 := toNat_field_or (k := 6) s.dir.code _ (by decide) (h4.trans_lt (by omega))
  rw [h4] at h6
  have h7 := toNat_field_or (k := 7) (BitVec.ofBool s.pad) _ (by decide) (h6.trans_lt (by omega))
  rw [h6, BitVec.toNat_ofBool] at h7
  simp only [State.coStatWord, BitVec.or_assoc]
  exact h7.trans (by omega)

/-- DG_STAT: RES_LEN above DG_STATE (R47, R48), where RES_LEN's seven bits hold the length. -/
theorem toNat_dgStatWord {s : State} (h : s.dgRes.length < 128) :
    s.dgStatWord.toNat = s.dgRes.length * 256 + s.dgState.code.toNat := by
  have hstate := s.dgState.code.isLt
  have h0 : (s.dgState.code.setWidth 32).toNat = s.dgState.code.toNat := BitVec.toNat_setWidth_of_le (by decide)
  have h8 := toNat_field_or (k := 8) (BitVec.ofNat 7 s.dgRes.length) _ (by decide) (h0.trans_lt (by omega))
  rw [h0, BitVec.toNat_ofNat, Nat.mod_eq_of_lt h] at h8
  exact h8

/-- The number the fields of a register make: what the register reads, with RES_LEN at its full value in DG_STAT. -/
def State.fieldNumber (s : State) : Csr → Nat
  | .dgStat => s.dgRes.length * 256 + s.dgState.code.toNat
  | c => (s.readCsr c).toNat

theorem State.toNat_readCsr {s : State} {c : Csr} (h : c = .dgStat → s.dgRes.length < 128) :
    (s.readCsr c).toNat = s.fieldNumber c := by
  cases c
  case dgStat => exact toNat_dgStatWord (h rfl)
  all_goals rfl

/-- `csrFields` is the CSR map: each register once, with its offset and its number. -/
theorem State.csrFields_eq_map (s : State) :
    s.csrFields = Csr.all.map fun c => (c.offset, c, s.fieldNumber c) := by
  simp only [csrFields, lowFields, highFields, Csr.all, Csr.commonAndStream, Csr.blockAndChaining, Csr.digestAndLengths,
    List.cons_append, List.nil_append, List.map_cons, List.map_nil, List.cons.injEq, Prod.mk.injEq, true_and, and_true,
    Csr.offset, fieldNumber, readCsr, toNat_statusWord, toNat_coStatWord, toNat_bitWord, BitVec.ofNat_eq_ofNat,
    BitVec.toNat_ofNat, BitVec.toNat_setWidth_of_le, BitVec.extractLsb'_toNat, Nat.shiftRight_zero, Nat.zero_mod, Nat.reduceMod,
    Nat.reducePow, Nat.reduceLeDiff, Nat.add_right_cancel_iff, Nat.add_left_cancel_iff, mul_eq_mul_right_iff,
    OfNat.ofNat_ne_zero, or_false]
  refine ⟨?err, ?coStat, ?scStat, ?dgCntHi, ?dgStat⟩
  case err => rcases s.err with _ | (_ | _ | _ | _ | _) <;> rfl
  case coStat => cases s.dir <;> cases s.mode <;> cases s.coState <;> rfl
  case scStat => cases s.scState <;> rfl
  case dgCntHi => have := s.dgCnt.isLt; omega
  case dgStat => cases s.dgState <;> rfl

theorem Csr.mem_all (c : Csr) : c ∈ Csr.all := by cases c <;> decide

theorem State.mem_csrFields {s : State} {o : Nat} {c : Csr} {v : Nat} :
    (o, c, v) ∈ s.csrFields ↔ o = c.offset ∧ v = s.fieldNumber c := by
  simp only [State.csrFields_eq_map, List.mem_map, Prod.mk.injEq]
  constructor
  · rintro ⟨c', -, rfl, rfl, rfl⟩; exact ⟨rfl, rfl⟩
  · rintro ⟨rfl, rfl⟩; exact ⟨c, c.mem_all, rfl, rfl, rfl⟩

/-! ## The statements -/

/-- Settles O53: R72's rules in order, by the law of a write at a register's address and by what `storeCsr` stores. -/
theorem csrWriteRules : Obligations.CsrWriteRules := by
  unfold Obligations.CsrWriteRules
  refine ⟨?reserved, ?register, ?stored⟩
  case reserved =>
    intro s a v rest hb ha h4 hres hp
    rw [step_write hb (accessOk_csr_aligned ha h4) hp, busWrite_reserved _ _ _ ha hres]
  case register =>
    intro s c v rest hb hp
    refine ⟨?_, fun hro => step_ignoredCsr hb (.inl hro) hp, fun hl ho => step_ignoredCsr hb (.inr ⟨hl, ho⟩) hp, ?_⟩
    · rintro rfl
      rw [step_writeCsr hb hp, if_pos rfl]
    · intro hrw hl
      exact ⟨_, step_storeCsr c hb hrw hl hp, readCsr_storeCsr_same v hrw, fun c' => readCsr_storeCsr_ne _ v,
        readCsr_bcStat_storeCsr _ c v, by simp⟩
  case stored =>
    intro s v rest hb
    have hfree {c : Csr} (h : c.locked = false) : ¬ (c.locked = true ∧ s.coState ≠ .idle) := by simp [h]
    refine ⟨step_storeCsr .len hb rfl (hfree rfl), step_storeCsr .data0 hb rfl (hfree rfl),
      step_storeCsr .data1 hb rfl (hfree rfl), fun hidle => ?_⟩
    have hl (c : Csr) : ¬ (c.locked = true ∧ s.coState ≠ .idle) := fun h => h.2 hidle
    exact ⟨step_storeCsr .chunkSize hb rfl (hl _), step_storeCsr .scKeyLo hb rfl (hl _), step_storeCsr .scKeyHi hb rfl (hl _),
      step_storeCsr .scIv hb rfl (hl _), step_storeCsr .scR1 hb rfl (hl _), step_storeCsr .scR2 hb rfl (hl _),
      step_storeCsr .scR3 hb rfl (hl _), step_storeCsr .scR4 hb rfl (hl _), step_storeCsr .bcKey0 hb rfl (hl _),
      step_storeCsr .bcKey1 hb rfl (hl _), step_storeCsr .bcKey2 hb rfl (hl _), step_storeCsr .bcKey3 hb rfl (hl _),
      step_storeCsr .bcRounds hb rfl (hl _), step_storeCsr .cmIv0 hb rfl (hl _), step_storeCsr .cmIv1 hb rfl (hl _)⟩

/-- Settles O54: both kinds of access are no bus error, read 0 and leave the state alone. -/
theorem reservedAndUnmapped : Obligations.ReservedAndUnmapped := by
  unfold Obligations.ReservedAndUnmapped
  rintro s wd a v rest hb (⟨ha, rfl, h4, hres⟩ | ⟨h1, hend⟩)
  · have hok := accessOk_csr_aligned ha h4
    exact ⟨fun hp => by rw [step_read hb hok hp, busRead_reserved s _ ha hres],
      fun hp => by rw [step_write hb hok hp, busWrite_reserved _ _ v ha hres]⟩
  · have h2 : a.toNat < 0x10000 := by have := wd.bytes_pos; omega
    have hok : accessOk wd a = true := by rw [accessOk_unmapped wd h1 h2]; exact decide_eq_true hend
    exact ⟨fun hp => by rw [step_read hb hok hp, busRead_unmapped s wd h1 h2],
      fun hp => by rw [step_write hb hok hp, busWrite_unmapped _ wd v h1 h2]⟩

/-- Settles O57: `csrFields` is the CSR map with each register's number, which a read at the register's offset returns. -/
theorem statusWordLayouts : Obligations.StatusWordLayouts := by
  unfold Obligations.StatusWordLayouts
  refine fun s => ⟨fun c => ⟨_, State.mem_csrFields.mpr ⟨rfl, rfl⟩⟩, ?_⟩
  intro o c v hmem hlen
  obtain ⟨rfl, rfl⟩ := State.mem_csrFields.mp hmem
  have hread := State.toNat_readCsr hlen
  refine ⟨rfl, hread, fun rest hb hp => ?_⟩
  rw [step_readCsr (c := c) hb hp, ← hread, BitVec.ofNat_toNat, BitVec.setWidth_eq]

end Sys2Proof.Machine
end

section
/-! # Settling the statement about buffer accesses (20_memory.md R92, R97)

The number of a bus value is the sum of its bytes times powers of 256, for every width; a write is seen through the memory law
`State.readByte_writeBytes`. -/

namespace Sys2Proof.Machine

/-! ## Little-endian values (R92) -/

/-- A byte below a word of at most three bytes. -/
theorem toNat_byte_or_shiftLeft (b : Byte) {w : Word} (hw : w.toNat < 2 ^ 24) :
    (b.setWidth 32 ||| (w <<< 8)).toNat = b.toNat + w.toNat * 256 := by
  have hbyte : (b.setWidth 32).toNat = b.toNat := BitVec.toNat_setWidth_of_le (by decide)
  have hlow : (w.setWidth 24).toNat = w.toNat := by rw [BitVec.toNat_setWidth, Nat.mod_eq_of_lt hw]
  have hword : (w.setWidth 24).setWidth 32 = w :=
    BitVec.eq_of_toNat_eq ((BitVec.toNat_setWidth_of_le (by decide)).trans hlow)
  have hfield := toNat_field_or (k := 8) (w.setWidth 24) (b.setWidth 32) (by decide) (hbyte.trans_lt b.isLt)
  rw [hword, hlow, hbyte] at hfield
  rw [BitVec.or_comm, hfield]
  omega

/-- The value of at most four bytes is their sum times powers of 256, the first byte the least. -/
theorem toNat_leWord_map_range (f : Nat → Byte) {n : Nat} (hn : n ≤ 4) :
    (leWord ((List.range n).map f)).toNat = ((List.range n).map fun k => (f k).toNat * 256 ^ k).sum ∧
      (leWord ((List.range n).map f)).toNat < 256 ^ n := by
  induction n generalizing f with
  | zero => simp [leWord]
  | succ n ih =>
    obtain ⟨hsum, hlt⟩ := ih (fun k => f (k + 1)) (by omega)
    have hpow : 256 ^ n ≤ 256 ^ 3 := Nat.pow_le_pow_right (by decide) (by omega)
    have hword : leWord ((List.range (n + 1)).map f) =
        (f 0).setWidth 32 ||| (leWord ((List.range n).map fun k => f (k + 1)) <<< 8) := by
      simp [List.range_succ_eq_map, leWord, Function.comp_def]
    rw [hword, toNat_byte_or_shiftLeft (f 0) (by omega)]
    constructor
    · simp [List.range_succ_eq_map, Function.comp_def, hsum, pow_succ, ← mul_assoc, List.sum_map_mul_right]
    · have := (f 0).isLt
      rw [pow_succ]
      omega

/-- Byte k of the bytes written is bits 8k+7..8k of the value. -/
theorem byteAt_leBytes {n k : Nat} (w : Word) (h : k < n) : byteAt (leBytes n w) k = w.extractLsb' (8 * k) 8 := by
  induction n generalizing w k with
  | zero => omega
  | succ n ih =>
    cases k with
    | zero => exact BitVec.setWidth_eq_extractLsb' (by decide : 8 ≤ 32)
    | succ k =>
      have hk : byteAt (leBytes (n + 1) w) (k + 1) = byteAt (leBytes n (w >>> 8)) k := rfl
      rw [hk, ih (w >>> 8) (by omega)]
      apply BitVec.eq_of_getLsbD_eq
      intro i _
      simp only [BitVec.getLsbD_extractLsb', BitVec.getLsbD_ushiftRight]
      congr 2
      omega

/-! ## The bus at the buffers -/

theorem Width.bytes_le (wd : Width) : wd.bytes ≤ 4 := by cases wd <;> decide

/-- An aligned access at or above IBUF is no bus error (R93). -/
theorem accessOk_buffer_aligned {wd : Width} {a : BitVec 18} (h : 0x10000 ≤ a.toNat) (hal : a.toNat % wd.bytes = 0) :
    accessOk wd a = true := by
  rw [accessOk_buffer wd h, hal, beq_self_eq_true]

theorem busRead_buffer {a : BitVec 18} (s : State) (wd : Width) (h : 0x10000 ≤ a.toNat) :
    s.busRead wd a = leWord (s.readBytes a.toNat wd.bytes) := by
  by_cases h2 : a.toNat < 0x20000
  · simp only [State.busRead, regionOf_ibuf h h2]
  · rcases regionOf_obuf (a := a) (by omega) with h3 | h3 <;> simp only [State.busRead, h3]

theorem toNat_busRead_buffer {a : BitVec 18} (s : State) (wd : Width) (h : 0x10000 ≤ a.toNat) :
    (s.busRead wd a).toNat = ((List.range wd.bytes).map fun k => (s.readByte (a.toNat + k)).toNat * 256 ^ k).sum := by
  rw [busRead_buffer s wd h]
  exact (toNat_leWord_map_range _ wd.bytes_le).1

theorem busWrite_ibuf {a : BitVec 18} (s : State) (wd : Width) (v : Word) (h1 : 0x10000 ≤ a.toNat) (h2 : a.toNat < 0x20000) :
    busWrite wd a v s = .next (s.writeBytes a.toNat (leBytes wd.bytes v)) := by
  simp only [busWrite, regionOf_ibuf h1 h2]

/-- R97: a host write to an output slot is ignored. -/
theorem busWrite_obuf {a : BitVec 18} (s : State) (wd : Width) (v : Word) (h : 0x20000 ≤ a.toNat) :
    busWrite wd a v s = .next s := by
  rcases regionOf_obuf h with h3 | h3 <;> simp only [busWrite, h3]

/-- Settles O55: a read's number is `toNat_busRead_buffer`, and a write to IBUF is `State.writeBytes` of the value's bytes. -/
theorem bufferAccesses : Obligations.BufferAccesses := by
  unfold Obligations.BufferAccesses
  intro s wd a v rest hb ha hal
  have hok := accessOk_buffer_aligned ha hal
  refine ⟨fun hp => ⟨_, step_read hb hok hp, toNat_busRead_buffer s wd ha⟩, fun hi hp => ?ibuf,
    fun ho hp => by rw [step_write hb hok hp, busWrite_obuf _ wd v ho]⟩
  have hread := s.readByte_writeBytes a.toNat (bs := leBytes wd.bytes v)
  rw [length_leBytes] at hread
  refine ⟨_, by rw [step_write hb hok hp, busWrite_ibuf _ wd v ha hi]; rfl, fun k hk => ?inside, fun b hout => ?outside⟩
  case inside =>
    refine (hread (a.toNat + k)).trans ?_
    rw [if_pos (by omega), Nat.add_sub_cancel_left, byteAt_leBytes v hk]
  case outside => exact (hread b).trans (if_neg hout)

end Sys2Proof.Machine
end

section
/-! # Settling the statement about the wire formats (20_memory.md R110 to R113) -/

namespace Sys2Proof.Machine

/-! ## Bit strings (R110, R111) -/

theorem mapM_bitChar_eq_some {s : List Char} (h : ∀ c ∈ s, c = '0' ∨ c = '1') :
    s.mapM bitChar = some (s.map fun c => decide (c = '1')) := by
  induction s with
  | nil => rfl
  | cons c s ih =>
    rw [List.forall_mem_cons] at h
    obtain ⟨hc, hs⟩ := h
    rw [List.mapM_cons, ih hs]
    rcases hc with rfl | rfl <;> rfl

theorem mapM_bitChar_eq_none {s : List Char} {c : Char} (hc : c ∈ s) (h0 : c ≠ '0') (h1 : c ≠ '1') :
    s.mapM bitChar = none := by
  induction s with
  | nil => cases hc
  | cons d s ih =>
    rw [List.mapM_cons]
    rcases List.mem_cons.mp hc with rfl | hc
    · simp [bitChar, h0, h1]
    · simp [ih hc]

/-- A string of n binary digits converts to the value whose bit i is the character i places before the last. -/
theorem bitString_eq_some {n : Nat} {s : List Char} (hlen : s.length = n) (h : ∀ c ∈ s, c = '0' ∨ c = '1') :
    ∃ k : BitVec n, bitString n s = some k ∧ ∀ i, i < n → k.getLsbD i = decide (s.getD (n - 1 - i) '0' = '1') := by
  have hbits : bitsFromLast s = some (s.reverse.map fun c => decide (c = '1')) :=
    mapM_bitChar_eq_some fun c hc => h c (List.mem_reverse.mp hc)
  refine ⟨_, by rw [bitString, if_pos hlen, hbits]; rfl, fun i hi => ?_⟩
  have hdigit : (s.reverse.map fun c => decide (c = '1')).getD i false = decide (s.reverse.getD i '0' = '1') :=
    List.getD_map (d := '0') ..
  rw [BitVec.getLsbD_ofNat, Nat.testBit_ofBits_lt _ i hi, hdigit, List.getD_reverse i (by omega), hlen]
  simp [hi]

theorem bitString_eq_none {n : Nat} {s : List Char} (h : s.length ≠ n ∨ ∃ c ∈ s, c ≠ '0' ∧ c ≠ '1') :
    bitString n s = none := by
  rw [bitString]
  rcases h with hlen | ⟨c, hc, h0, h1⟩
  · rw [if_neg hlen]
  · rw [bitsFromLast, mapM_bitChar_eq_none (List.mem_reverse.mpr hc) h0 h1, Option.map_none, ite_self]

/-! ## The host writes they become -/

theorem wireStreamKey_eq_some {s : List Char} (hlen : s.length = 64) (h : ∀ c ∈ s, c = '0' ∨ c = '1') : ∃ lo hi : Word,
    wireStreamKey s = some [.write .w32 0x00020 lo, .write .w32 0x00024 hi] ∧
    ∀ i, i < 32 → lo.getLsbD i = decide (s.getD (63 - i) '0' = '1') ∧ hi.getLsbD i = decide (s.getD (31 - i) '0' = '1') := by
  obtain ⟨k, hk, hbit⟩ := bitString_eq_some hlen h
  refine ⟨_, _, by rw [wireStreamKey, hk]; rfl, fun i hi => ⟨?_, ?_⟩⟩
  · simpa [hi] using hbit i (by omega)
  · have hindex : 64 - 1 - (32 + i) = 31 - i := by omega
    simpa [hi, hindex] using hbit (32 + i) (by omega)

theorem wireStreamIv_eq_some {s : List Char} (hlen : s.length = 22) (h : ∀ c ∈ s, c = '0' ∨ c = '1') : ∃ iv : Word,
    wireStreamIv s = some [.write .w32 0x00028 iv] ∧ iv.toNat < 2 ^ 22 ∧
    ∀ i, i < 22 → iv.getLsbD i = decide (s.getD (21 - i) '0' = '1') := by
  obtain ⟨k, hk, hbit⟩ := bitString_eq_some hlen h
  refine ⟨_, by rw [wireStreamIv, hk]; rfl, ?_, fun i hi => ?_⟩
  · rw [BitVec.toNat_setWidth_of_le (by decide)]
    exact k.isLt
  · have hi32 : i < 32 := by omega
    simpa [hi32] using hbit i hi

/-! ## Byte strings (R112, R113) -/

/-- Only the first four bytes enter a big-endian word. -/
@[simp] theorem be32_take_four (b : List Byte) : be32 (b.take 4) = be32 b := by
  simp [be32, byteAt, List.getD_eq_getElem?_getD]

theorem byteAt_drop (b : List Byte) (i j : Nat) : byteAt (b.drop i) j = byteAt b (i + j) := by
  simp [byteAt, List.getD_eq_getElem?_getD]

/-- The number of a big-endian word (R15). -/
theorem toNat_be32 (b : List Byte) :
    (be32 b).toNat = (byteAt b 0).toNat * 2 ^ 24 + (byteAt b 1).toNat * 2 ^ 16 + (byteAt b 2).toNat * 2 ^ 8 +
      (byteAt b 3).toNat := by
  have hb1 := (byteAt b 1).isLt
  have hb2 := (byteAt b 2).isLt
  have hb3 := (byteAt b 3).isLt
  have h0 : ((byteAt b 3).setWidth 32).toNat = (byteAt b 3).toNat := BitVec.toNat_setWidth_of_le (by decide)
  have h8 := toNat_field_or (k := 8) (byteAt b 2) _ (by decide) (h0.trans_lt hb3)
  have h16 := toNat_field_or (k := 16) (byteAt b 1) _ (by decide) (h8.trans_lt (by omega))
  have h24 := toNat_field_or (k := 24) (byteAt b 0) _ (by decide) (h16.trans_lt (by omega))
  simp only [be32, BitVec.or_assoc]
  exact h24.trans (by omega)

/-- The big-endian word of bytes 4i..4i+3, as the host writes it to the i-th register of a block key or chaining IV. -/
def wireWord (b : List Byte) (i : Nat) : Word := be32 (b.drop (4 * i))

theorem toNat_wireWord (b : List Byte) (i : Nat) :
    (wireWord b i).toNat = (byteAt b (4 * i)).toNat * 2 ^ 24 + (byteAt b (4 * i + 1)).toNat * 2 ^ 16 +
      (byteAt b (4 * i + 2)).toNat * 2 ^ 8 + (byteAt b (4 * i + 3)).toNat := by
  simp only [wireWord, toNat_be32, byteAt_drop, Nat.add_zero]

theorem wireBlockKey_eq_some {b : List Byte} (h : b.length = 16) :
    wireBlockKey b = some [.write .w32 0x00050 (wireWord b 0), .write .w32 0x00054 (wireWord b 1),
      .write .w32 0x00058 (wireWord b 2), .write .w32 0x0005C (wireWord b 3)] := by
  simp only [wireBlockKey, if_pos h, keyWordsOfBytes, be32_take_four]
  rfl

theorem wireChainIv_eq_some {b : List Byte} (h : b.length = 8) :
    wireChainIv b = some [.write .w32 0x00070 (wireWord b 0), .write .w32 0x00074 (wireWord b 1)] := by
  simp only [wireChainIv, if_pos h, be32_take_four]
  rfl

/-- Settles O58: each wire form converts bit by bit or byte by byte, and anything else converts to nothing. -/
theorem wireBitStrings : Obligations.WireBitStrings := by
  unfold Obligations.WireBitStrings
  refine ⟨fun n s _ => ⟨bitString_eq_some, fun hlen => bitString_eq_none (.inl hlen),
    fun c hc h0 h1 => bitString_eq_none (.inr ⟨c, hc, h0, h1⟩)⟩, fun s => ?strings, fun b => ?bytes⟩
  case strings =>
    exact ⟨wireStreamKey_eq_some, wireStreamIv_eq_some, fun h => by rw [wireStreamKey, bitString_eq_none h, Option.map_none],
      fun h => by rw [wireStreamIv, bitString_eq_none h, Option.map_none]⟩
  case bytes =>
    exact ⟨fun h => ⟨wireWord b, wireBlockKey_eq_some h, fun i _ => toNat_wireWord b i⟩,
      fun h => ⟨wireWord b, wireChainIv_eq_some h, fun i _ => toNat_wireWord b i⟩, fun h => if_neg h, fun h => if_neg h⟩

end Sys2Proof.Machine
end

section
/-! # Settling the statement about illegal words (30_encoding.md R137 to R139)

A word decodes exactly when a row of the opcode map carries its OP and accepts its other bits. What each row accepts is a clause
of `LegalWord`, with the row's opcode in place. -/

namespace Sys2Proof

/-! ## Decoding as a row of the opcode map (R137, R138) -/

/-- The row gives word c a command: its reserved bits are clear and its operands are in range. -/
def OpcodeRow.Accepts (r : OpcodeRow) (c : Word) : Prop := r.reservedClear c = true ∧ ∃ i, r.operands c = .ok i

/-- No two rows of the map share an opcode, so the look-up finds every row. -/
theorem lookup_opcodeMap_eq_some_iff {op : BitVec 8} {r : OpcodeRow} :
    opcodeMap.lookup op = some r ↔ (op, r) ∈ opcodeMap := by
  constructor
  · intro h
    obtain ⟨l₁, l₂, heq, -⟩ := List.lookup_eq_some_iff.mp h
    rw [heq]
    exact List.mem_append_right _ List.mem_cons_self
  · have hfound : ∀ p ∈ opcodeMap, opcodeMap.lookup p.1 = some p.2 := by decide
    exact hfound (op, r)

theorem decodes_iff_exists_row {c : Word} :
    (∃ i, decode c = .ok i) ↔ ∃ r, (fieldOp c, r) ∈ opcodeMap ∧ r.Accepts c := by
  simp only [← lookup_opcodeMap_eq_some_iff, OpcodeRow.Accepts]
  unfold decode
  cases hrow : opcodeMap.lookup (fieldOp c) with
  | none => simp
  | some r => cases hclear : r.reservedClear c <;> simp [hclear]

theorem mem_opcodeMap_select {op : BitVec 8} : (op, .select) ∈ opcodeMap ↔ op.toNat = 0x10 := by
  simp [opcodeMap, BitVec.toNat_eq]

theorem mem_opcodeMap_selectTap {op : BitVec 8} : (op, .selectTap) ∈ opcodeMap ↔ op.toNat = 0x11 := by
  simp [opcodeMap, BitVec.toNat_eq]

theorem mem_opcodeMap_openStream {op : BitVec 8} : (op, .openStream) ∈ opcodeMap ↔ op.toNat = 0x60 := by
  simp [opcodeMap, BitVec.toNat_eq]

theorem exists_plain_mem_opcodeMap {op : BitVec 8} :
    (∃ i, (op, .plain i) ∈ opcodeMap) ↔
      op.toNat ∈ [0x00, 0x01, 0x02, 0x20, 0x21, 0x22, 0x30, 0x31, 0x32, 0x40, 0x41, 0x42, 0x50, 0x51, 0x52, 0x61, 0x62] := by
  simp [opcodeMap, BitVec.toNat_eq, exists_or]

/-! ## The fields of a word as numbers (R131) -/

theorem toNat_fieldOp (c : Word) : (fieldOp c).toNat = c.toNat % 256 := by
  simp [fieldOp]

theorem toNat_fieldSel (c : Word) : (fieldSel c).toNat = c.toNat / 256 % 16 := by
  simp [fieldSel, Nat.shiftRight_eq_div_pow]

/-- All bits of a word from bit k up are 0. -/
theorem extractLsb'_high_eq_zero {c : Word} {k : Nat} (hk : k ≤ 32) :
    c.extractLsb' k (32 - k) = 0 ↔ c.toNat < 2 ^ k := by
  have hlt : c.toNat / 2 ^ k < 2 ^ (32 - k) := by
    rw [Nat.div_lt_iff_lt_mul (Nat.two_pow_pos k), ← Nat.pow_add, Nat.sub_add_cancel hk]
    exact c.isLt
  simp [BitVec.toNat_eq, Nat.shiftRight_eq_div_pow, Nat.mod_eq_of_lt hlt]

/-! ## The operand codes in range (R133, R135) -/

theorem isSome_ofSel_lfsrId (v : BitVec 4) : (LfsrId.ofSel v).isSome = true ↔ 1 ≤ v.toNat ∧ v.toNat ≤ 4 := by
  decide +revert

/-- LFSR_OUT accepts R[1] to R[3] only. -/
theorem any_ofSel_ne_r4 (v : BitVec 4) : (LfsrId.ofSel v).any (· != .r4) = true ↔ 1 ≤ v.toNat ∧ v.toNat ≤ 3 := by
  decide +revert

theorem isSome_ofSel_mode (v : BitVec 4) : (Mode.ofSel v).isSome = true ↔ v.toNat < 4 := by
  decide +revert

/-! ## What each row accepts, by the arithmetic of the word's bits (R132 to R135, R138) -/

namespace OpcodeRow

/-- Format N: no bit above OP. -/
theorem accepts_plain_iff {i : Instr} {c : Word} : (plain i).Accepts c ↔ c.toNat = (fieldOp c).toNat := by
  have hreserved : c.extractLsb' 8 24 = 0 ↔ c.toNat < 256 := extractLsb'_high_eq_zero (k := 8) (by decide)
  simp only [Accepts, reservedClear, operands, beq_iff_eq, hreserved, Except.ok.injEq, exists_eq', and_true, toNat_fieldOp]
  omega

/-- Format S: SEL = 1..4 above OP. -/
theorem accepts_select_iff {c : Word} :
    select.Accepts c ↔ ∃ sel, 1 ≤ sel ∧ sel ≤ 4 ∧ c.toNat = sel * 0x100 + (fieldOp c).toNat := by
  have hreserved : c.extractLsb' 12 20 = 0 ↔ c.toNat < 4096 := extractLsb'_high_eq_zero (k := 12) (by decide)
  have hoperands : (∃ i, select.operands c = .ok i) ↔ (LfsrId.ofSel (fieldSel c)).isSome = true := by
    simp only [operands]
    cases LfsrId.ofSel (fieldSel c) <;> simp
  simp only [Accepts, reservedClear, beq_iff_eq, hreserved, hoperands, isSome_ofSel_lfsrId, toNat_fieldSel, toNat_fieldOp]
  constructor
  · exact fun h => ⟨c.toNat / 256, by omega⟩
  · rintro ⟨sel, h⟩
    omega

/-- Format T: SEL = 1..3 and any TAP. -/
theorem accepts_selectTap_iff {c : Word} :
    selectTap.Accepts c ↔
      ∃ sel tap, 1 ≤ sel ∧ sel ≤ 3 ∧ tap < 32 ∧ c.toNat = tap * 0x10000 + sel * 0x100 + (fieldOp c).toNat := by
  have hreserved : c.extractLsb' 21 11 = 0 ↔ c.toNat < 2097152 := extractLsb'_high_eq_zero (k := 21) (by decide)
  have hgap : c.extractLsb' 12 4 = 0 ↔ c.toNat / 4096 % 16 = 0 := by
    simp [BitVec.toNat_eq, Nat.shiftRight_eq_div_pow]
  have hoperands : (∃ i, selectTap.operands c = .ok i) ↔ (LfsrId.ofSel (fieldSel c)).any (· != .r4) = true := by
    simp only [operands]
    rcases LfsrId.ofSel (fieldSel c) with _ | (_ | _ | _ | _) <;> simp
  simp only [Accepts, reservedClear, Bool.and_eq_true, beq_iff_eq, hreserved, hgap, hoperands, any_ofSel_ne_r4,
    toNat_fieldSel, toNat_fieldOp]
  constructor
  · exact fun h => ⟨c.toNat / 256 % 16, c.toNat / 65536, by omega⟩
  · rintro ⟨sel, tap, h⟩
    omega

/-- Format O: MODE = 0..3, any DIR and PAD. -/
theorem accepts_openStream_iff {c : Word} :
    openStream.Accepts c ↔
      ∃ mode dir pad, mode < 4 ∧ dir < 2 ∧ pad < 2 ∧
        c.toNat = pad * 0x2000 + dir * 0x1000 + mode * 0x100 + (fieldOp c).toNat := by
  have hreserved : c.extractLsb' 14 18 = 0 ↔ c.toNat < 16384 := extractLsb'_high_eq_zero (k := 14) (by decide)
  have hoperands : (∃ i, openStream.operands c = .ok i) ↔ (Mode.ofSel (fieldSel c)).isSome = true := by
    simp only [operands]
    cases Mode.ofSel (fieldSel c) <;> simp
  simp only [Accepts, reservedClear, beq_iff_eq, hreserved, hoperands, isSome_ofSel_mode, toNat_fieldSel, toNat_fieldOp]
  constructor
  · exact fun h => ⟨c.toNat / 256 % 16, c.toNat / 4096 % 2, c.toNat / 8192, by omega⟩
  · rintro ⟨mode, dir, pad, h⟩
    omega

end OpcodeRow

end Sys2Proof

namespace Sys2Proof.Machine

/-! ## The legal words (R137, R139) -/

theorem decodes_of_row {c : Word} {r : OpcodeRow} (hrow : (fieldOp c, r) ∈ opcodeMap) (h : r.Accepts c) :
    ∃ i, decode c = .ok i :=
  decodes_iff_exists_row.mpr ⟨r, hrow, h⟩

/-- The legal words are the words some row of the map accepts. -/
theorem decodes_iff_legalWord {c : Word} : (∃ i, decode c = .ok i) ↔ LegalWord c := by
  have hop := toNat_fieldOp c
  constructor
  · rw [decodes_iff_exists_row]
    rintro ⟨r, hrow, hacc⟩
    cases r with
    | plain i =>
      rw [OpcodeRow.accepts_plain_iff] at hacc
      exact .inl (hacc ▸ exists_plain_mem_opcodeMap.mp ⟨i, hrow⟩)
    | select =>
      rw [OpcodeRow.accepts_select_iff, mem_opcodeMap_select.mp hrow] at hacc
      exact .inr (.inl hacc)
    | selectTap =>
      rw [OpcodeRow.accepts_selectTap_iff, mem_opcodeMap_selectTap.mp hrow] at hacc
      exact .inr (.inr (.inl hacc))
    | openStream =>
      rw [OpcodeRow.accepts_openStream_iff, mem_opcodeMap_openStream.mp hrow] at hacc
      exact .inr (.inr (.inr hacc))
  · rintro (hplain | hselect | htap | hopen)
    · have hc : c.toNat = (fieldOp c).toNat := by
        have hlt : c.toNat < 256 := by
          simp only [List.mem_cons, List.not_mem_nil, or_false] at hplain
          omega
        omega
      obtain ⟨i, hrow⟩ := exists_plain_mem_opcodeMap.mpr (hc ▸ hplain)
      exact decodes_of_row hrow (OpcodeRow.accepts_plain_iff.mpr hc)
    · have hopcode : (fieldOp c).toNat = 0x10 := by
        obtain ⟨sel, hword⟩ := hselect
        omega
      exact decodes_of_row (mem_opcodeMap_select.mpr hopcode) (OpcodeRow.accepts_select_iff.mpr (hopcode ▸ hselect))
    · have hopcode : (fieldOp c).toNat = 0x11 := by
        obtain ⟨sel, tap, hword⟩ := htap
        omega
      exact decodes_of_row (mem_opcodeMap_selectTap.mpr hopcode) (OpcodeRow.accepts_selectTap_iff.mpr (hopcode ▸ htap))
    · have hopcode : (fieldOp c).toNat = 0x60 := by
        obtain ⟨mode, dir, pad, hword⟩ := hopen
        omega
      exact decodes_of_row (mem_opcodeMap_openStream.mpr hopcode) (OpcodeRow.accepts_openStream_iff.mpr (hopcode ▸ hopen))

/-- R139, R362: with FAILED = 0, a word that does not decode raises E_ILLEGAL with its OP. -/
theorem issue_of_not_decodes {c : Word} {s : State} (hc : ¬ ∃ i, decode c = .ok i) (hs : s.failed = false) :
    issue c s = .next (s.raise .illegal (fieldOp c)) := by
  rcases issue_cases c s with ⟨hfailed, -⟩ | ⟨-, -, hraise⟩ | ⟨-, i, hi, -⟩
  · simp [hs] at hfailed
  · exact hraise
  · exact absurd ⟨i, hi⟩ hc

/-- Settles O4: the legal words are those that decode, and any other word raises E_ILLEGAL, which writes the error fields alone. -/
theorem illegalWordsRaise : Obligations.IllegalWordsRaise := by
  unfold Obligations.IllegalWordsRaise
  exact fun c s => ⟨decodes_iff_legalWord.mpr, fun hc => issue_of_not_decodes (mt decodes_iff_legalWord.mp hc)⟩

end Sys2Proof.Machine
end

section
/-! # Settling the statements about the LFSR primitive (40_lfsr.md)

A clocked register keeps every bit but the highest, one place up, and its new bit 0 gives the highest back, because the highest
index is a feedback tap. Each of the two commands is then the command frame with its own checks, and a word that does not decode
is one that its opcode's row does not accept. -/

namespace Sys2Proof.Machine

/-! ## Clocking a register (R160, R161, R164) -/

theorem getLsbD_clockReg_zero {n : Nat} (fb : List Nat) (r : BitVec n) (hn : 0 < n) :
    (clockReg fb r).getLsbD 0 = feedback fb r := by
  rw [getLsbD_clockReg, if_pos rfl, decide_eq_true hn, Bool.true_and]

theorem getLsbD_clockReg_pos {n k : Nat} (fb : List Nat) (r : BitVec n) (hk : 1 ≤ k) (hkn : k < n) :
    (clockReg fb r).getLsbD k = r.getLsbD (k - 1) := by
  rw [getLsbD_clockReg, if_neg (by omega), decide_eq_true hkn, Bool.true_and]

@[simp] theorem feedback_zero (n : Nat) (fb : List Nat) : feedback fb 0#n = false := by
  simp [feedback, List.foldl_fixed]

@[simp] theorem clockReg_zero (n : Nat) (fb : List Nat) : clockReg fb 0#n = 0#n := by
  simp [clockReg]

theorem feedback_concat {n : Nat} (fb : List Nat) (t : Nat) (r : BitVec n) :
    feedback (fb ++ [t]) r = (feedback fb r ^^ r.getLsbD t) := by
  simp [feedback]

theorem feedback_congr {n : Nat} {fb : List Nat} {r r' : BitVec n} (h : ∀ t ∈ fb, r.getLsbD t = r'.getLsbD t) :
    feedback fb r = feedback fb r' :=
  List.foldl_ext _ _ _ fun acc t ht => by rw [h t ht]

/-- Clocking loses no bit when the highest index is a feedback tap: the shift keeps the bits below it, and those and the new
bit 0 give the highest bit back. -/
theorem clockReg_injective {m : Nat} {fb : List Nat} (hfb : ∀ t ∈ fb, t < m) :
    Function.Injective (clockReg (fb ++ [m]) : BitVec (m + 1) → BitVec (m + 1)) := by
  intro r r' h
  have hlow : ∀ k, k < m → r.getLsbD k = r'.getLsbD k := fun k hk => by
    have hbit := congrArg (BitVec.getLsbD · (k + 1)) h
    simpa only [getLsbD_clockReg_pos _ _ (Nat.le_add_left 1 k) (Nat.succ_lt_succ hk), Nat.add_sub_cancel] using hbit
  have htop : r.getLsbD m = r'.getLsbD m := by
    have hbit := congrArg (BitVec.getLsbD · 0) h
    simp only [getLsbD_clockReg_zero _ _ m.succ_pos, feedback_concat,
      feedback_congr fun t ht => hlow t (hfb t ht)] at hbit
    exact Bool.xor_right_inj.mp hbit
  apply BitVec.eq_of_getLsbD_eq
  intro k hk
  rcases Nat.lt_succ_iff_lt_or_eq.mp hk with hk | rfl
  · exact hlow k hk
  · exact htop

theorem Lfsrs.clock_injective (n : LfsrId) : Function.Injective fun l : Lfsrs => l.clock n := by
  have h1 : Function.Injective (clockReg (fbTaps .r1) : BitVec 19 → _) := clockReg_injective (fb := [13, 16, 17]) (by decide)
  have h2 : Function.Injective (clockReg (fbTaps .r2) : BitVec 22 → _) := clockReg_injective (fb := [20]) (by decide)
  have h3 : Function.Injective (clockReg (fbTaps .r3) : BitVec 23 → _) := clockReg_injective (fb := [7, 20, 21]) (by decide)
  have h4 : Function.Injective (clockReg (fbTaps .r4) : BitVec 17 → _) := clockReg_injective (fb := [11]) (by decide)
  rintro ⟨a1, a2, a3, a4⟩ ⟨b1, b2, b3, b4⟩ h
  cases n <;> simpa [Lfsrs.clock, h1.eq_iff, h2.eq_iff, h3.eq_iff, h4.eq_iff] using h

theorem Lfsrs.finite : Finite Lfsrs := by
  have hword (n : Nat) : Finite (BitVec n) := Finite.of_injective BitVec.toFin fun _ _ => BitVec.eq_of_toFin_eq
  refine Finite.of_injective (fun l : Lfsrs => (l.r1, l.r2, l.r3, l.r4)) ?_
  rintro ⟨a1, a2, a3, a4⟩ ⟨b1, b2, b3, b4⟩ h
  simpa using h

/-- Settles O17: the feedback of the zero register is 0, and clocking one register of a file, of which there are finitely many,
is injective and so a bijection. -/
theorem lfsrClockIsBijective : Obligations.LfsrClockIsBijective := by
  unfold Obligations.LfsrClockIsBijective
  refine ⟨fun n => ?_, fun n => ?_⟩
  · cases n <;> simp [Lfsrs.clock]
  · have := Lfsrs.finite
    exact Finite.injective_iff_bijective.mp (Lfsrs.clock_injective n)

/-! ## Words with an LFSR command's opcode (R133, R138) -/

/-- A word that the row of its OP does not accept does not decode. -/
theorem decode_error_of_row {c : Word} {r : OpcodeRow} (hrow : (fieldOp c, r) ∈ opcodeMap) (hacc : ¬ r.Accepts c) :
    ∃ e, decode c = .error e := by
  cases hdecode : decode c with
  | error e => exact ⟨e, rfl⟩
  | ok i =>
    obtain ⟨r', hrow', hacc'⟩ := decodes_iff_exists_row.mp ⟨i, hdecode⟩
    rw [← lookup_opcodeMap_eq_some_iff] at hrow hrow'
    cases hrow.symm.trans hrow'
    exact absurd hacc' hacc

theorem decode_lfsrClock_error {c : Word} (hop : fieldOp c = 0x10)
    (hbad : (fieldSel c).toNat < 1 ∨ 4 < (fieldSel c).toNat ∨ c.extractLsb' 12 20 ≠ 0) : ∃ e, decode c = .error e := by
  refine decode_error_of_row (mem_opcodeMap_select.mpr (congrArg BitVec.toNat hop)) ?_
  rw [OpcodeRow.accepts_select_iff]
  rintro ⟨sel, h1, h4, hc⟩
  have hlow := (fieldOp c).isLt
  have hclear : c.extractLsb' 12 20 = 0 := (extractLsb'_high_eq_zero (k := 12) (by decide)).mpr (by omega)
  rw [toNat_fieldSel] at hbad
  rcases hbad with h | h | h
  · omega
  · omega
  · exact h hclear

theorem decode_lfsrOut_error {c : Word} (hop : fieldOp c = 0x11)
    (hbad : (fieldSel c).toNat < 1 ∨ 3 < (fieldSel c).toNat ∨ c.extractLsb' 12 4 ≠ 0 ∨ c.extractLsb' 21 11 ≠ 0) :
    ∃ e, decode c = .error e := by
  refine decode_error_of_row (mem_opcodeMap_selectTap.mpr (congrArg BitVec.toNat hop)) fun hacc => ?_
  obtain ⟨sel, tap, h1, h3, htap, hc⟩ := OpcodeRow.accepts_selectTap_iff.mp hacc
  obtain ⟨hreserved, -⟩ := hacc
  simp only [OpcodeRow.reservedClear, Bool.and_eq_true, beq_iff_eq] at hreserved
  obtain ⟨hhigh, hgap⟩ := hreserved
  have hlow := (fieldOp c).isLt
  rw [toNat_fieldSel] at hbad
  rcases hbad with h | h | h | h
  · omega
  · omega
  · exact h hgap
  · exact h hhigh

theorem decode_lfsrOut_word (tap : BitVec 5) :
    decode (BitVec.ofNat 32 (tap.toNat * 0x10000 + 0x111)) = .ok (.lfsrOut .r1 tap) ∧
      decode (BitVec.ofNat 32 (tap.toNat * 0x10000 + 0x211)) = .ok (.lfsrOut .r2 tap) ∧
      decode (BitVec.ofNat 32 (tap.toNat * 0x10000 + 0x311)) = .ok (.lfsrOut .r3 tap) := by
  decide +revert

/-! ## LFSR_CLOCK (R165) -/

theorem exec_lfsrClock (n : LfsrId) (s : State) :
    exec (.lfsrClock n) s = runCommand 0x10 s [(s.streamOpen, .state)] (.ok { s with lfsr := s.lfsr.clock n }) := rfl

theorem exec_lfsrClock_open {s : State} (n : LfsrId) (h : s.coState ≠ .idle) :
    exec (.lfsrClock n) s = .next (s.raise .state 0x10) := by
  rw [exec_lfsrClock, streamOpen_eq_true.mpr h, runCommand_error (firstError_cons_true ..)]

theorem exec_lfsrClock_idle {s : State} (n : LfsrId) (h : s.coState = .idle) :
    exec (.lfsrClock n) s = .next { s with lfsr := s.lfsr.clock n } := by
  rw [exec_lfsrClock, streamOpen_eq_false.mpr h, runCommand_ok (by simp)]

/-- Settles O15: the row of LFSR_CLOCK decides the words, the stream check comes first, and bit by bit `clock` is the shift with
the feedback at index 0. -/
theorem lfsrClockResult : Obligations.LfsrClockResult := by
  unfold Obligations.LfsrClockResult
  refine ⟨by decide, fun c => decode_lfsrClock_error, fun s => ⟨fun n => exec_lfsrClock_open n, fun h => ⟨?_, ?_, ?_, ?_⟩⟩⟩
  all_goals
    refine ⟨_, exec_lfsrClock_idle _ h, (getLsbD_clockReg_zero _ _ (by decide)).trans ?_, fun k => getLsbD_clockReg_pos _ _⟩
    simp [feedback, fbTaps]

/-! ## LFSR_OUT (R162, R166) -/

/-- The output bit over three taps, with the negated tap as LFSR_OUT's operand gives it. -/
theorem outputBit_three {n a b c : Nat} (tap : BitVec 5) (r : BitVec n) (ha : a < 32) (hb : b < 32) (hc : c < 32) :
    outputBit [a, b, c] tap.toNat r =
      (maj (r.getLsbD a ^^ decide (tap = BitVec.ofNat 5 a)) (r.getLsbD b ^^ decide (tap = BitVec.ofNat 5 b))
        (r.getLsbD c ^^ decide (tap = BitVec.ofNat 5 c)) ^^ r.getLsbD (n - 1)) := by
  have hneg {t : Nat} (ht : t < 32) : (t == tap.toNat) = decide (tap = BitVec.ofNat 5 t) := by
    simp [BitVec.toNat_eq, Nat.mod_eq_of_lt ht, eq_comm, Bool.beq_eq_decide_eq]
  simp only [outputBit, List.map_cons, List.map_nil, majority_three, hneg ha, hneg hb, hneg hc]

theorem toNat_mem_outTaps_r1 {tap : BitVec 5} : tap.toNat ∈ outTaps .r1 ↔ tap = 12 ∨ tap = 14 ∨ tap = 15 := by
  simp [outTaps, BitVec.toNat_eq]

theorem toNat_mem_outTaps_r2 {tap : BitVec 5} : tap.toNat ∈ outTaps .r2 ↔ tap = 9 ∨ tap = 13 ∨ tap = 16 := by
  simp [outTaps, BitVec.toNat_eq]

theorem toNat_mem_outTaps_r3 {tap : BitVec 5} : tap.toNat ∈ outTaps .r3 ↔ tap = 13 ∨ tap = 16 ∨ tap = 18 := by
  simp [outTaps, BitVec.toNat_eq]

/-- LFSR_OUT on a register with output taps, whose first check never fires. -/
theorem exec_lfsrOut {n : LfsrId} {tap : BitVec 5} {s : State} (hn : n ≠ .r4) :
    exec (.lfsrOut n tap) s = runCommand 0x11 s
      [(false, .illegal), (s.streamOpen, .state), (decide (tap.toNat ∉ outTaps n), .invalidArg)]
      (.ok { s with result := s.lfsr.outputBit tap.toNat n }) := by
  have hr4 : (n == .r4) = false := beq_eq_false_iff_ne.mpr hn
  simp only [exec, execLfsrOut, hr4, List.contains_eq_mem, decide_not]

theorem exec_lfsrOut_open {s : State} {n : LfsrId} (tap : BitVec 5) (hn : n ≠ .r4) (h : s.coState ≠ .idle) :
    exec (.lfsrOut n tap) s = .next (s.raise .state 0x11) := by
  rw [exec_lfsrOut hn, streamOpen_eq_true.mpr h, runCommand_error (e := .state) (by simp)]

theorem exec_lfsrOut_otherTap {s : State} {n : LfsrId} {tap : BitVec 5} (hn : n ≠ .r4) (h : s.coState = .idle)
    (htap : tap.toNat ∉ outTaps n) : exec (.lfsrOut n tap) s = .next (s.raise .invalidArg 0x11) := by
  rw [exec_lfsrOut hn, streamOpen_eq_false.mpr h, decide_eq_true htap, runCommand_error (e := .invalidArg) (by simp)]

theorem exec_lfsrOut_outTap {s : State} {n : LfsrId} {tap : BitVec 5} (hn : n ≠ .r4) (h : s.coState = .idle)
    (htap : tap.toNat ∈ outTaps n) :
    exec (.lfsrOut n tap) s = .next { s with result := s.lfsr.outputBit tap.toNat n } := by
  rw [exec_lfsrOut hn, streamOpen_eq_false.mpr h, decide_eq_false (not_not_intro htap), runCommand_ok (by simp)]

/-- Settles O16: the row of LFSR_OUT decides the words, and its checks run in order before the vote over the three output taps. -/
theorem lfsrOutResult : Obligations.LfsrOutResult := by
  unfold Obligations.LfsrOutResult
  refine ⟨fun c => decode_lfsrOut_error, fun tap s => ⟨decode_lfsrOut_word tap, fun n => exec_lfsrOut_open tap, fun h => ?_⟩⟩
  have hother {n : LfsrId} (hn : n ≠ .r4) {a b c : BitVec 5} (hmem : tap.toNat ∈ outTaps n ↔ tap = a ∨ tap = b ∨ tap = c)
      (ha : tap ≠ a) (hb : tap ≠ b) (hc : tap ≠ c) : exec (.lfsrOut n tap) s = .next (s.raise .invalidArg 0x11) :=
    exec_lfsrOut_otherTap hn h (by simp [hmem, ha, hb, hc])
  have hout {n : LfsrId} (hn : n ≠ .r4) {a b c : BitVec 5} (hmem : tap.toNat ∈ outTaps n ↔ tap = a ∨ tap = b ∨ tap = c)
      {v : Bool} (hv : s.lfsr.outputBit tap.toNat n = v) (htap : tap = a ∨ tap = b ∨ tap = c) :
      exec (.lfsrOut n tap) s = .next { s with result := v } :=
    hv ▸ exec_lfsrOut_outTap hn h (hmem.mpr htap)
  exact ⟨hother (by decide) toNat_mem_outTaps_r1,
    hout (by decide) toNat_mem_outTaps_r1 (outputBit_three tap s.lfsr.r1 (by decide) (by decide) (by decide)),
    hother (by decide) toNat_mem_outTaps_r2,
    hout (by decide) toNat_mem_outTaps_r2 (outputBit_three tap s.lfsr.r2 (by decide) (by decide) (by decide)),
    hother (by decide) toNat_mem_outTaps_r3,
    hout (by decide) toNat_mem_outTaps_r3 (outputBit_three tap s.lfsr.r3 (by decide) (by decide) (by decide))⟩

end Sys2Proof.Machine
end

section
/-! # Settling the statements about the stream cipher (41_stream_cipher.md)

`Lfsrs.discard` names the registers some steps on, so that `ksByte` and `ksXor` are told by how many steps they make and which
step's output bit meets which bit. The loading sequence is the fold that `loadLfsrs` runs, cut after each round, and each of the
three commands is the command frame with its own checks. -/

namespace Sys2Proof.Machine

/-! ## Loading (R181, R182) -/

/-- The registers after the first `i` rounds of `load(K, IV)` (R181). -/
def loadRounds (k : BitVec 64) (iv : BitVec 22) (i : Nat) : Lfsrs :=
  ((loadingBits k iv).take i).foldl (fun l b => l.clockAll.xorBit0 b) ⟨0, 0, 0, 0⟩

@[simp] theorem loadRounds_zero (k : BitVec 64) (iv : BitVec 22) : loadRounds k iv 0 = ⟨0, 0, 0, 0⟩ := rfl

theorem loadRounds_all (k : BitVec 64) (iv : BitVec 22) : loadRounds k iv 86 = loadLfsrs k iv := by
  rw [loadRounds, List.take_of_length_le (by simp [loadingBits]), loadLfsrs]

theorem loadRounds_succ {i : Nat} (k : BitVec 64) (iv : BitVec 22) (hi : i < 86) :
    loadRounds k iv (i + 1) =
      (loadRounds k iv i).clockAll.xorBit0 (if i < 64 then k.getLsbD i else iv.getLsbD (i - 64)) := by
  have hbit : (loadingBits k iv)[i]? = some (if i < 64 then k.getLsbD i else iv.getLsbD (i - 64)) := by
    simp [loadingBits, hi]
  simp only [loadRounds, List.take_add_one, hbit, Option.toList_some, List.foldl_append, List.foldl_cons, List.foldl_nil]

theorem getLsbD_or_one_shiftLeft {n j : Nat} (r : BitVec n) (t : Nat) (hj : j < n) :
    (r ||| 1#n <<< t).getLsbD j = (decide (j = t) || r.getLsbD j) := by
  rw [BitVec.getLsbD_or, ← BitVec.twoPow_eq, BitVec.getLsbD_twoPow, Bool.or_comm]
  by_cases h : j = t
  · simp [← h, hj]
  · simp [h, Ne.symm h]

/-- Settles O19: the sequence is the loading fold cut after each round, and `sync` is one OR of a single bit per register. -/
theorem loadingSequence : Obligations.LoadingSequence := by
  unfold Obligations.LoadingSequence
  refine ⟨fun k iv => ⟨loadRounds k iv, loadRounds_zero k iv, loadRounds_all k iv, ?_⟩, fun l j => ⟨?_, ?_, ?_, ?_⟩⟩
  · rintro i hi b rfl
    exact loadRounds_succ k iv hi
  all_goals exact getLsbD_or_one_shiftLeft _ _

/-! ## One step (R183, R184, R185) -/

theorem Lfsrs.outputBit_r1_negTap (l : Lfsrs) : l.outputBit (negTap .r1) .r1 =
    (maj (l.r1.getLsbD 12) (!l.r1.getLsbD 14) (l.r1.getLsbD 15) ^^ l.r1.getLsbD 18) := by
  simp [Lfsrs.outputBit, Machine.outputBit, outTaps, negTap, majority_three]

theorem Lfsrs.outputBit_r2_negTap (l : Lfsrs) : l.outputBit (negTap .r2) .r2 =
    (maj (l.r2.getLsbD 9) (l.r2.getLsbD 13) (!l.r2.getLsbD 16) ^^ l.r2.getLsbD 21) := by
  simp [Lfsrs.outputBit, Machine.outputBit, outTaps, negTap, majority_three]

theorem Lfsrs.outputBit_r3_negTap (l : Lfsrs) : l.outputBit (negTap .r3) .r3 =
    (maj (!l.r3.getLsbD 13) (l.r3.getLsbD 16) (l.r3.getLsbD 18) ^^ l.r3.getLsbD 22) := by
  simp [Lfsrs.outputBit, Machine.outputBit, outTaps, negTap, majority_three]

theorem Lfsrs.step_snd (l : Lfsrs) : l.step.2 = l.step.1.keystreamBit := rfl

/-- Settles O22: the majority clock is the statement's four equations, and each register's output bit is a vote of its three taps
with the engine's negated tap inverted. -/
theorem majorityClockStep : Obligations.MajorityClockStep := by
  unfold Obligations.MajorityClockStep
  rintro l _ _ _ _ rfl rfl rfl rfl
  refine ⟨rfl, rfl, rfl, rfl, ?_⟩
  rw [Lfsrs.step_snd, Lfsrs.keystreamBit, Lfsrs.outputBit_r1_negTap, Lfsrs.outputBit_r2_negTap, Lfsrs.outputBit_r3_negTap]

/-! ## Several steps (R187, R190) -/

@[simp] theorem Lfsrs.discard_zero (l : Lfsrs) : Lfsrs.discard 0 l = l := rfl

theorem Lfsrs.discard_eq_iterate (n : Nat) (l : Lfsrs) : Lfsrs.discard n l = (fun x : Lfsrs => x.step.1)^[n] l := by
  induction n generalizing l with
  | zero => rfl
  | succ n ih => exact ih _

theorem Lfsrs.discard_discard (m n : Nat) (l : Lfsrs) : Lfsrs.discard m (Lfsrs.discard n l) = Lfsrs.discard (n + m) l := by
  simp only [discard_eq_iterate, Nat.add_comm n m, Function.iterate_add_apply]

/-! ## Keystream application (R190) -/

theorem getLsbD_ofBool_shiftLeft {n k : Nat} (b : Bool) (p : Nat) (hk : k < n) :
    ((BitVec.ofBool b).setWidth n <<< p).getLsbD k = (decide (k = p) && b) := by
  rcases Nat.lt_trichotomy k p with h | rfl | h
  · simp [h, h.ne]
  · simp [hk]
  · simp [h.ne', Nat.sub_ne_zero_of_lt h]

theorem ksByte_fst (l : Lfsrs) : (ksByte l).1 = Lfsrs.discard 8 l := rfl

/-- The eight steps' output bits fill the byte from bit 7 down. -/
theorem getLsbD_ksByte (l : Lfsrs) {j : Nat} (hj : j < 8) :
    (ksByte l).2.getLsbD (7 - j) = (Lfsrs.discard j l).step.2 := by
  simp only [ksByte, ksBitPositions, List.foldl_cons, List.foldl_nil, BitVec.getLsbD_or,
    getLsbD_ofBool_shiftLeft _ _ (show 7 - j < 8 by omega)]
  interval_cases j <;> simp [Lfsrs.discard]

theorem ksXor_fst (l : Lfsrs) (d : List Byte) : (ksXor l d).1 = Lfsrs.discard (8 * d.length) l := by
  induction d generalizing l with
  | nil => rfl
  | cons b d ih =>
    rw [ksXor, ih, ksByte_fst, Lfsrs.discard_discard, List.length_cons, Nat.mul_succ, Nat.add_comm]

@[simp] theorem byteAt_cons_zero (b : Byte) (d : List Byte) : byteAt (b :: d) 0 = b := rfl

@[simp] theorem byteAt_cons_succ (b : Byte) (d : List Byte) (i : Nat) : byteAt (b :: d) (i + 1) = byteAt d i := rfl

theorem getLsbD_ksXor (l : Lfsrs) (d : List Byte) {i j : Nat} (hi : i < d.length) (hj : j < 8) :
    (byteAt (ksXor l d).2 i).getLsbD (7 - j) =
      ((byteAt d i).getLsbD (7 - j) ^^ (Lfsrs.discard (8 * i + j) l).step.2) := by
  induction d generalizing l i with
  | nil => simp at hi
  | cons b d ih =>
    cases i with
    | zero => simp [ksXor, getLsbD_ksByte l hj]
    | succ i =>
      have hsteps : 8 * (i + 1) + j = 8 + (8 * i + j) := by omega
      simp only [ksXor, byteAt_cons_succ, ih _ (Nat.lt_of_succ_lt_succ hi), ksByte_fst, Lfsrs.discard_discard, hsteps]

/-- Settles O23, by induction on the data: a byte's eight steps fill it from bit 7 down, and the next byte begins 8 steps on. -/
theorem keystreamBits : Obligations.KeystreamBits := by
  unfold Obligations.KeystreamBits
  intro l d
  simp only [← Lfsrs.discard_eq_iterate]
  refine ⟨length_ksXor l d, ksXor_fst l d, fun i j => getLsbD_ksXor l d, ?_⟩
  rintro s rfl
  rfl

/-! ## The commands (R186, R187, R188) -/

theorem exec_scLoad (s : State) : exec .scLoad s = runCommand 0x20 s [(s.streamOpen, .state)]
    (.ok { s with lfsr := (loadLfsrs s.streamKey s.scIv).sync, scState := .keyLoaded, scCnt := 0 }) := rfl

theorem exec_scWarmup (s : State) : exec .scWarmup s =
    runCommand 0x21 s [(s.streamOpen, .state), (s.scState != .keyLoaded, .state)]
      (.ok { s with lfsr := Lfsrs.discard 99 s.lfsr, scState := .running, scCnt := 0 }) := rfl

theorem exec_scStep (s : State) : exec .scStep s =
    runCommand 0x22 s [(s.streamOpen, .state), (s.scState != .running, .state)]
      (.ok { s with lfsr := s.lfsr.step.1, result := s.lfsr.step.2, scCnt := s.scCnt + 1 }) := rfl

/-- SC_WARMUP's and SC_STEP's checks: a stream open or the wrong SC_STATE, either one E_STATE. -/
theorem firstError_open_or_scState {s : State} {q : ScState} (h : s.coState ≠ .idle ∨ s.scState ≠ q) :
    firstError [(s.streamOpen, .state), (s.scState != q, .state)] = some .state := by
  by_cases hopen : s.coState = .idle
  · rw [streamOpen_eq_false.mpr hopen, bne_iff_ne.mpr (h.resolve_left (not_not_intro hopen)), firstError_cons_false,
      firstError_cons_true]
  · rw [streamOpen_eq_true.mpr hopen, firstError_cons_true]

theorem firstError_idle_and_scState {s : State} {q : ScState} (hidle : s.coState = .idle) (hq : s.scState = q) :
    firstError [(s.streamOpen, .state), (s.scState != q, .state)] = none := by
  simp [firstError_eq_none, hidle, hq]

/-- Settles O18: the stream check is SC_LOAD's only one. -/
theorem scLoadResult : Obligations.ScLoadResult := by
  unfold Obligations.ScLoadResult
  refine ⟨by decide, fun s => ⟨fun hopen => ?_, fun hidle => ?_⟩⟩
  · rw [exec_scLoad, streamOpen_eq_true.mpr hopen]
    exact runCommand_error (firstError_cons_true ..)
  · rw [exec_scLoad, streamOpen_eq_false.mpr hidle, runCommand_ok (by simp), State.streamKey]

/-- Settles O20: the two checks, then the 99 discarded steps as an iterate. -/
theorem scWarmupResult : Obligations.ScWarmupResult := by
  unfold Obligations.ScWarmupResult
  refine ⟨by decide, fun s => ⟨fun hbad => ?_, fun hidle hloaded => ?_⟩⟩
  · exact (exec_scWarmup s).trans (runCommand_error (firstError_open_or_scState hbad))
  · rw [exec_scWarmup, runCommand_ok (firstError_idle_and_scState hidle hloaded), Lfsrs.discard_eq_iterate]

/-- Settles O21: the two checks, then one step. -/
theorem scStepResult : Obligations.ScStepResult := by
  unfold Obligations.ScStepResult
  refine ⟨by decide, fun s => ⟨fun hbad => ?_, fun hidle hrunning => ?_⟩⟩
  · exact (exec_scStep s).trans (runCommand_error (firstError_open_or_scState hbad))
  · exact (exec_scStep s).trans <| runCommand_ok (firstError_idle_and_scState hidle hrunning)

end Sys2Proof.Machine
end

section
/-! # Settling the statements about the block cipher (42_block_cipher.md)

`mapBlocks` is told block by block, which gives ECB both ways; each command is the command frame with its own checks; and the
spec's vectors are evaluated in the kernel, one closed equation each. -/

namespace Sys2Proof.Machine

/-! ## ECB over a sequence (R218) -/

/-- Block `j` of the output is the block function of block `j` of the input: the loop reaches it after `j` passes. -/
theorem take_drop_mapBlocks (f : Block → Block) {n j : Nat} (d : List Byte) (hj : j < n) :
    ((mapBlocks f n d).drop (8 * j)).take 8 = (f (blockOfBytes ((d.drop (8 * j)).take 8))).bytes := by
  induction n generalizing d j with
  | zero => exact absurd hj j.not_lt_zero
  | succ n ih =>
    rw [mapBlocks]
    cases j with
    | zero => exact List.take_left' (Block.length_bytes _)
    | succ j =>
      have hdrop : (f (blockOfBytes (d.take 8))).bytes.length + 8 * j = 8 * (j + 1) := by rw [Block.length_bytes]; omega
      rw [← hdrop, List.drop_length_add_append, ih _ (Nat.lt_of_succ_lt_succ hj), List.drop_drop, Block.length_bytes]

theorem length_mapBlocks_aligned (f : Block → Block) {d : List Byte} (h : d.length % 8 = 0) :
    (mapBlocks f (d.length / 8) d).length = d.length := by
  rw [length_mapBlocks, Nat.mul_div_cancel' (Nat.dvd_of_mod_eq_zero h)]

/-- Settles O29: ECB is `mapBlocks` of the block function, in both directions. -/
theorem ecbBlocksAreIndependent : Obligations.EcbBlocksAreIndependent := by
  unfold Obligations.EcbBlocksAreIndependent
  intro key nr d h
  exact ⟨length_mapBlocks_aligned _ h, length_mapBlocks_aligned _ h,
    fun j hj => ⟨take_drop_mapBlocks _ d hj, take_drop_mapBlocks _ d hj⟩⟩

/-! ## The commands (R211, R214, R215) -/

theorem exec_bcSetkey (s : State) : exec .bcSetkey s =
    runCommand 0x30 s [(s.streamOpen, .state), (decide (s.bcRounds.toNat < 32), .invalidArg)]
      (.ok { s with bcReady := true }) := rfl

theorem exec_bcEnc (s : State) : exec .bcEnc s =
    runCommand 0x31 s [(s.streamOpen, .state), (!s.bcReady, .state)]
      (.ok { s with data := encryptBlock s.bcKey s.bcRounds.toNat s.data }) := rfl

theorem exec_bcDec (s : State) : exec .bcDec s =
    runCommand 0x32 s [(s.streamOpen, .state), (!s.bcReady, .state)]
      (.ok { s with data := decryptBlock s.bcKey s.bcRounds.toNat s.data }) := rfl

/-- Two checks of one cause raise it when either condition holds. -/
theorem firstError_same_cause (a b : Bool) (e : ErrCause) :
    firstError [(a, e), (b, e)] = if a || b then some e else none := by
  cases a <;> cases b <;> rfl

/-- Settles O26: the stream check comes before the check of the round count. -/
theorem bcSetkeyResult : Obligations.BcSetkeyResult := by
  unfold Obligations.BcSetkeyResult
  refine ⟨by decide, fun s => ⟨fun hopen => ?_, fun hidle hfew => ?_, fun hidle henough => ?_⟩⟩
  · rw [exec_bcSetkey, streamOpen_eq_true.mpr hopen]
    exact runCommand_error (firstError_cons_true ..)
  · rw [exec_bcSetkey, streamOpen_eq_false.mpr hidle, decide_eq_true hfew]
    exact runCommand_error (by rw [firstError_cons_false, firstError_cons_true])
  · rw [exec_bcSetkey, streamOpen_eq_false.mpr hidle, decide_eq_false henough.not_gt]
    exact runCommand_ok (by simp)

/-- Settles O27: both commands make the same two checks, then put the block function of DATA0:DATA1 there. -/
theorem bcEncAndDecResults : Obligations.BcEncAndDecResults := by
  unfold Obligations.BcEncAndDecResults
  refine ⟨by decide, by decide, fun s => ⟨fun hbad => ?_, fun hidle hready => ?_⟩⟩
  · have hraise : firstError [(s.streamOpen, .state), (!s.bcReady, .state)] = some .state := by
      rw [firstError_same_cause, if_pos (by simpa using hbad)]
    exact ⟨(exec_bcEnc s).trans (runCommand_error hraise), (exec_bcDec s).trans (runCommand_error hraise)⟩
  · have hpass : firstError [(s.streamOpen, .state), (!s.bcReady, .state)] = none := by
      rw [firstError_same_cause, if_neg (by simp [hidle, hready])]
    exact ⟨(exec_bcEnc s).trans (runCommand_ok hpass), (exec_bcDec s).trans (runCommand_ok hpass)⟩

/-! ## The vectors of the engines' functions (95_test_vectors.md) -/

/-- A line of V35, of the warmed-up registers `l` of a neighbour of Z (key and IV zero): its first keystream bytes, the first of 228
keystream bits that is not Z's (V34a), and how many are not. -/
def DiffersFromZ (l : Lfsrs) (first : List Byte) (bit count : Nat) : Prop :=
  (ksXor l [0, 0, 0, 0]).2 = first ∧
  ∀ x : Nat, x = (keystreamNumber l 228 ^^^ 0x158df7d240d1c4b3c9e0a5dca819774d88746783c8f420763b4724180) →
    x / 2 ^ (227 - bit) = 1 ∧ (List.range 228).countP (fun k => x.testBit k) = count

theorem keyBit0_differsFromZ :
    DiffersFromZ ((fun l : Lfsrs => l.step.1)^[99] (loadLfsrs 1 0).sync) [0x03, 0x35, 0x05, 0x2c] 3 123 :=
  ⟨by decide +kernel, forall_eq.mpr (by decide +kernel)⟩

theorem keyBit63_differsFromZ : DiffersFromZ ((fun l : Lfsrs => l.step.1)^[99] (loadLfsrs 0x8000000000000000 0).sync)
    [0xdf, 0x35, 0xa8, 0x10] 0 113 :=
  ⟨by decide +kernel, forall_eq.mpr (by decide +kernel)⟩

theorem ivBit0_differsFromZ :
    DiffersFromZ ((fun l : Lfsrs => l.step.1)^[99] (loadLfsrs 0 1).sync) [0x68, 0x00, 0x06, 0x6f] 1 128 :=
  ⟨by decide +kernel, forall_eq.mpr (by decide +kernel)⟩

theorem ivBit21_differsFromZ :
    DiffersFromZ ((fun l : Lfsrs => l.step.1)^[99] (loadLfsrs 0 0x200000).sync) [0x01, 0x40, 0x49, 0xde] 3 109 :=
  ⟨by decide +kernel, forall_eq.mpr (by decide +kernel)⟩

/-- Settles O25: V35 is a line per neighbour, and every other vector is a closed equation that the kernel evaluates. -/
theorem cipherVectors : Obligations.CipherVectors := by
  unfold Obligations.CipherVectors
  obtain ⟨hkey0, hkey0'⟩ := keyBit0_differsFromZ
  obtain ⟨hkey63, hkey63'⟩ := keyBit63_differsFromZ
  obtain ⟨hiv0, hiv0'⟩ := ivBit0_differsFromZ
  obtain ⟨hiv21, hiv21'⟩ := ivBit21_differsFromZ
  refine ⟨?v31, ?v32, ?v32a, ?v33, ?v33a, ?v33b, ?v33c, ?v34, ?v34a, ?v34b, ?v34c,
    hkey0, hkey0', hkey63, hkey63', hiv0, hiv0', hiv21, hiv21',
    ?v40to45, ?v46, ?v71unit1, ?v71unit2, ?v71back, ?v50, ?v51⟩
  all_goals decide +kernel

end Sys2Proof.Machine
end

section
/-! # Settling the statements about the chaining mode (43_chaining.md)

Each command is the command frame with its own checks. CM_ENC and CM_DEC make the same two, so one lemma says when they raise
E_STATE and one when they pass. -/

namespace Sys2Proof.Machine

/-! ## The commands (R242, R243, R244) -/

theorem exec_cmSetiv (s : State) : exec .cmSetiv s =
    runCommand 0x40 s [(s.streamOpen, .state)] (.ok { s with w := s.cmIv, cmReady := true }) := rfl

theorem exec_cmEnc (s : State) : exec .cmEnc s =
    runCommand 0x41 s [(s.streamOpen, .state), (s.chainNotReady, .state)]
      (.ok { s with
        w := (pcbcEncBlock s.bcKey s.bcRounds.toNat s.w s.data).1
        data := (pcbcEncBlock s.bcKey s.bcRounds.toNat s.w s.data).2 }) := rfl

theorem exec_cmDec (s : State) : exec .cmDec s =
    runCommand 0x42 s [(s.streamOpen, .state), (s.chainNotReady, .state)]
      (.ok { s with
        w := (pcbcDecBlock s.bcKey s.bcRounds.toNat s.w s.data).1
        data := (pcbcDecBlock s.bcKey s.bcRounds.toNat s.w s.data).2 }) := rfl

theorem chainNotReady_eq_true {s : State} : s.chainNotReady = true ↔ s.bcReady = false ∨ s.cmReady = false := by
  simp [State.chainNotReady]

theorem firstError_open_or_chainNotReady {s : State}
    (h : s.coState ≠ .idle ∨ s.bcReady = false ∨ s.cmReady = false) :
    firstError [(s.streamOpen, .state), (s.chainNotReady, .state)] = some .state := by
  rw [← streamOpen_eq_true, ← chainNotReady_eq_true, ← Bool.or_eq_true] at h
  rw [firstError_same_cause, if_pos h]

theorem firstError_idle_and_chainReady {s : State} (hidle : s.coState = .idle) (hkey : s.bcReady = true)
    (hiv : s.cmReady = true) : firstError [(s.streamOpen, .state), (s.chainNotReady, .state)] = none := by
  simp [firstError_eq_none, State.chainNotReady, hidle, hkey, hiv]

/-- Settles O31: the stream check is CM_SETIV's only one. -/
theorem cmSetivResult : Obligations.CmSetivResult := by
  unfold Obligations.CmSetivResult
  refine ⟨by decide, fun s => ⟨fun hopen => ?_, fun hidle => ?_⟩⟩
  · rw [exec_cmSetiv, streamOpen_eq_true.mpr hopen]
    exact runCommand_error (firstError_cons_true ..)
  · rw [exec_cmSetiv, streamOpen_eq_false.mpr hidle]
    exact runCommand_ok (by simp)

/-- Settles O32: both commands make the same two checks, then put the PCBC step of W and DATA0:DATA1 there, whose two blocks are
the statement's word by word. -/
theorem cmEncAndDecResults : Obligations.CmEncAndDecResults := by
  unfold Obligations.CmEncAndDecResults
  refine ⟨by decide, by decide, fun s => ⟨fun hbad => ?_, fun hidle hkey hiv => ?_⟩⟩
  · have hraise := firstError_open_or_chainNotReady hbad
    exact ⟨(exec_cmEnc s).trans (runCommand_error hraise), (exec_cmDec s).trans (runCommand_error hraise)⟩
  · have hpass := firstError_idle_and_chainReady hidle hkey hiv
    refine ⟨?enc, ?dec⟩
    case enc =>
      rintro c rfl
      exact (exec_cmEnc s).trans (runCommand_ok hpass)
    case dec =>
      rintro p q rfl rfl
      exact (exec_cmDec s).trans (runCommand_ok hpass)

end Sys2Proof.Machine
end

section
/-! # Settling the statements about the digest (44_digest.md)

The loop over whole 64-byte blocks is a fold of `compress` over the list of those blocks, so that one equation says what `absorb`
makes of its buffer; a final absorb's padded buffer is whole blocks. DG_ABSORB and DG_FINAL make the same three checks. -/

namespace Sys2Proof.Machine

/-! ## The blocks an absorb compresses (R262) -/

/-- The first n 64-byte blocks of a sequence, in order (R262). -/
def digestBlocks : Nat → List Byte → List (List Byte)
  | 0, _ => []
  | n + 1, buf => buf.take 64 :: digestBlocks n (buf.drop 64)

theorem compressBlocks_eq_foldl (n : Nat) (h : Acc) (buf : List Byte) :
    compressBlocks n h buf = (digestBlocks n buf).foldl compress h := by
  induction n generalizing h buf with
  | zero => rfl
  | succ n ih => exact ih _ _

theorem flatten_digestBlocks (n : Nat) (buf : List Byte) : (digestBlocks n buf).flatten = buf.take (64 * n) := by
  induction n generalizing buf with
  | zero => simp [digestBlocks]
  | succ n ih => rw [digestBlocks, List.flatten_cons, ih, Nat.mul_succ, Nat.add_comm, List.take_add]

theorem length_of_mem_digestBlocks {n : Nat} {buf b : List Byte} (hn : 64 * n ≤ buf.length) (hb : b ∈ digestBlocks n buf) :
    b.length = 64 := by
  induction n generalizing buf with
  | zero => cases hb
  | succ n ih =>
    rcases List.mem_cons.mp hb with rfl | hb
    · exact List.length_take_of_le (by omega)
    · exact ih (by rw [List.length_drop]; omega) hb

/-! ## absorb (R262) -/

/-- What `absorb` makes of its buffer: the whole blocks compressed, the tail kept. -/
theorem State.absorb_eq {s : State} {data buf : List Byte} {final : Bool} (hbuf : absorbBuffer s data final = buf) :
    s.absorb data final = { s with
      dgH := (digestBlocks (buf.length / 64) buf).foldl compress s.dgH
      dgRes := buf.drop (64 * (buf.length / 64))
      dgCnt := s.dgCnt + BitVec.ofNat 64 data.length
      dgState := if final then .done else s.dgState } := by
  rw [← compressBlocks_eq_foldl, ← hbuf]
  rfl

/-- R262: the zeros after the 0x80 bring the length to 56 mod 64. -/
theorem add_zeroFill_mod (n : Nat) : (n + zeroFill n) % 64 = 56 := by
  unfold zeroFill
  omega

/-- Settles O37: the blocks are the buffer's whole blocks. What is left over is RES of a non-final absorb, and is nothing when the
buffer is padded. -/
theorem absorbByBlocks : Obligations.AbsorbByBlocks := by
  unfold Obligations.AbsorbByBlocks
  intro s data
  have hblock (buf : List Byte) : ∀ b ∈ digestBlocks (buf.length / 64) buf, b.length = 64 :=
    fun b hb => length_of_mem_digestBlocks (Nat.mul_div_le ..) hb
  refine ⟨?nonfinal, ?final⟩
  case nonfinal =>
    refine ⟨_, _, hblock (s.dgRes ++ data), ?rest, ?split, State.absorb_eq rfl⟩
    case rest => rw [List.length_drop]; omega
    case split => rw [flatten_digestBlocks, List.take_append_drop]
  case final =>
    generalize hbuf : absorbBuffer s data true = buf
    have hwhole : 64 * (buf.length / 64) = buf.length :=
      Nat.mul_div_cancel' <| Nat.dvd_of_mod_eq_zero <| hbuf ▸ length_digestPad_mod ..
    refine ⟨digestBlocks (buf.length / 64) buf, zeroFill ((s.dgRes ++ data).length + 1), hblock buf,
      Nat.mod_lt _ (by decide), ?zeros, ?split, ?next⟩
    case zeros => rw [← List.length_append, add_zeroFill_mod]
    case split => rw [flatten_digestBlocks, hwhole, List.take_length, ← hbuf]; rfl
    case next => rw [State.absorb_eq hbuf, hwhole, List.drop_length]; rfl

/-! ## The commands (R267, R268, R269) -/

/-- The checks DG_ABSORB and DG_FINAL make, in order (R268, R269). -/
def State.absorbChecks (s : State) : List (Bool × ErrCause) :=
  [(s.streamOpen, .state), (s.dgState != .absorbing, .state), (decide (chunkMax < s.len.toNat), .invalidArg)]

theorem exec_dgInit (s : State) : exec .dgInit s = runCommand 0x50 s [(s.streamOpen, .state)]
    (.ok { s with dgH := digestInit, dgCnt := 0, dgRes := [], dgState := .absorbing }) := rfl

theorem exec_dgAbsorb (s : State) : exec .dgAbsorb s =
    runCommand 0x51 s s.absorbChecks (.ok (s.absorb (s.readBytes 0x10000 s.len.toNat) false)) := rfl

theorem exec_dgFinal (s : State) : exec .dgFinal s =
    runCommand 0x52 s s.absorbChecks (.ok (s.absorb (s.readBytes 0x10000 s.len.toNat) true)) := rfl

theorem firstError_absorbChecks_state {s : State} (h : s.coState ≠ .idle ∨ s.dgState ≠ .absorbing) :
    firstError s.absorbChecks = some .state := by
  unfold State.absorbChecks
  by_cases hidle : s.coState = .idle
  · rw [streamOpen_eq_false.mpr hidle, bne_iff_ne.mpr (h.resolve_left (not_not_intro hidle)), firstError_cons_false,
      firstError_cons_true]
  · rw [streamOpen_eq_true.mpr hidle, firstError_cons_true]

/-- Once the state is right, only LEN is left to check. -/
theorem firstError_absorbChecks_len {s : State} (hidle : s.coState = .idle) (habs : s.dgState = .absorbing) :
    firstError s.absorbChecks = if 65536 < s.len.toNat then some .invalidArg else none := by
  unfold State.absorbChecks
  rw [streamOpen_eq_false.mpr hidle, bne_eq_false_iff_eq.mpr habs]
  simp [firstError]

/-- Settles O35: the stream check is DG_INIT's only one. -/
theorem dgInitResult : Obligations.DgInitResult := by
  unfold Obligations.DgInitResult
  refine ⟨by decide, fun s => ⟨fun hopen => ?_, fun hidle => ?_⟩⟩
  · rw [exec_dgInit, streamOpen_eq_true.mpr hopen]
    exact runCommand_error (firstError_cons_true ..)
  · rw [exec_dgInit, streamOpen_eq_false.mpr hidle]
    exact runCommand_ok (by simp)

/-- Settles O36: both commands make the same three checks, then absorb the unit in IBUF. -/
theorem dgAbsorbAndFinalResults : Obligations.DgAbsorbAndFinalResults := by
  unfold Obligations.DgAbsorbAndFinalResults
  refine ⟨by decide, by decide, fun s => ⟨fun hbad => ?_, fun hidle habs hlong => ?_, fun hidle habs hfits => ?_⟩⟩
  · have hraise := firstError_absorbChecks_state hbad
    exact ⟨(exec_dgAbsorb s).trans (runCommand_error hraise), (exec_dgFinal s).trans (runCommand_error hraise)⟩
  · have hraise := (firstError_absorbChecks_len hidle habs).trans (if_pos hlong)
    exact ⟨(exec_dgAbsorb s).trans (runCommand_error hraise), (exec_dgFinal s).trans (runCommand_error hraise)⟩
  · have hpass := (firstError_absorbChecks_len hidle habs).trans (if_neg hfits.not_gt)
    exact ⟨(exec_dgAbsorb s).trans (runCommand_ok hpass), (exec_dgFinal s).trans (runCommand_ok hpass)⟩

end Sys2Proof.Machine
end

section
/-! # Settling the statements about the coordinator (45_coordinator.md)

CO_OPEN's four checks raise two causes, so one lemma says which conditions raise which. CO_UNIT on a held unit is `nonfinal` of that
unit once its own checks pass; `nonfinal` is told once per mode, and each mode's result is emitted to slot 0. -/

namespace Sys2Proof.Machine

/-! ## Removing padding (R298) -/

@[simp] theorem removePadding_nil : removePadding [] = .error .padding := rfl

theorem removePadding_concat (t : List Byte) (p : Byte) : removePadding (t ++ [p]) =
    if p.toNat < 1 ∨ 8 < p.toNat then .error .padding else .ok (t.take (t.length + 1 - p.toNat)) := by
  simp only [removePadding, List.getLast?_concat, List.length_append, List.length_singleton]
  split_ifs with hbad
  · rfl
  · rw [List.take_append_of_le_length (by omega)]

/-- Settles O41: the last byte of a nonempty unit decides. -/
theorem removePaddingChecks : Obligations.RemovePaddingChecks := by
  unfold Obligations.RemovePaddingChecks
  refine ⟨removePadding_nil, fun t p => ⟨fun hbad => ?_, fun hpos hle => ?_⟩⟩
  · rw [removePadding_concat, if_pos hbad]
  · rw [removePadding_concat, if_neg (by omega)]

/-! ## CO_OPEN (R291) -/

/-- CO_OPEN's four checks: either of the first two raises E_STATE, else either of the last two E_INVALID_ARG. -/
theorem firstError_state_then_invalidArg (a b c d : Bool) :
    firstError [(a, .state), (b, .state), (c, .invalidArg), (d, .invalidArg)] =
      if a || b then some .state else if c || d then some .invalidArg else none := by
  cases a
  · cases b
    · exact firstError_same_cause c d .invalidArg
    · rfl
  · rfl

theorem engineNotReady_eq_false {s : State} {m : Mode} : s.engineNotReady m = false ↔
    (m = .stream → s.scState = .running) ∧ (m = .ecb → s.bcReady = true) ∧
      (m = .pcbc → s.bcReady = true ∧ s.cmReady = true) ∧ (m = .digest → s.dgState = .absorbing) := by
  cases m <;> simp [State.engineNotReady]

theorem badOptions_eq_true {m : Mode} {d : Dir} {p : Bool} : badOptions m d p = true ↔
    (m = .stream ∧ p = true) ∨ (m = .digest ∧ (d = .dec ∨ p = true)) := by
  cases m <;> simp [badOptions]

theorem badChunkSize_eq_true {m : Mode} {n : Nat} : badChunkSize m n = true ↔
    n < 1 ∨ 65536 < n ∨ ((m = .ecb ∨ m = .pcbc) ∧ n % 8 ≠ 0) := by
  cases m <;> simp [badChunkSize, Mode.isBlock, or_assoc]

theorem exec_coOpen (m : Mode) (d : Dir) (p : Bool) (s : State) : exec (.coOpen m d p) s =
    runCommand 0x60 s
      [(s.streamOpen, .state), (s.engineNotReady m, .state), (badOptions m d p, .invalidArg),
        (badChunkSize m s.chunkSize.toNat, .invalidArg)]
      (.ok { s with mode := m, dir := d, pad := p, hold := [], coState := .opened }) := rfl

theorem decode_coOpen_word (m : Mode) (d : Dir) (p : Bool) :
    decode (BitVec.ofNat 32 ((if p then 0x2000 else 0) + (match d with | .enc => 0 | .dec => 0x1000) +
      (match m with | .stream => 0 | .ecb => 0x100 | .pcbc => 0x200 | .digest => 0x300) + 0x60)) = .ok (.coOpen m d p) := by
  cases m <;> cases d <;> cases p <;> rfl

/-- Settles O43: the statement's two conditions are the model's checks, two of each cause. -/
theorem coOpenResult : Obligations.CoOpenResult := by
  unfold Obligations.CoOpenResult
  intro m d p s ready badArg hready hbadArg
  rw [← engineNotReady_eq_false] at hready
  have hbad : badArg ↔ (badOptions m d p || badChunkSize m s.chunkSize.toNat) = true := by
    rw [hbadArg, Bool.or_eq_true, badOptions_eq_true, badChunkSize_eq_true, or_assoc]
  refine ⟨decode_coOpen_word m d p, fun hstate => ?state, fun hidle hr hb => ?invalidArg, fun hidle hr hb => ?opened⟩
  case state =>
    rw [hready, Bool.not_eq_false, ← streamOpen_eq_true, ← Bool.or_eq_true] at hstate
    exact (exec_coOpen m d p s).trans <| runCommand_error <| by
      rw [firstError_state_then_invalidArg, if_pos hstate]
  all_goals
    have hpass : ¬ (s.streamOpen || s.engineNotReady m) = true := by simp [hready.mp hr, hidle]
  case invalidArg =>
    exact (exec_coOpen m d p s).trans <| runCommand_error <| by
      rw [firstError_state_then_invalidArg, if_neg hpass, if_pos (hbad.mp hb)]
  case opened =>
    exact (exec_coOpen m d p s).trans <| runCommand_ok <| by
      rw [firstError_state_then_invalidArg, if_neg hpass, if_neg (mt hbad.mpr hb)]

/-! ## A non-final unit (R295) -/

/-- ecb_enc or ecb_dec of a unit, as the stream's direction says (R295). -/
theorem State.cipherUnit_ecb {s : State} (u : List Byte) (h : s.mode = .ecb) : s.cipherUnit u =
    (s, if s.dir = .enc then ecbEnc s.bcKey s.bcRounds.toNat u else ecbDec s.bcKey s.bcRounds.toNat u) := by
  unfold State.cipherUnit
  rw [h]
  cases s.dir <;> rfl

/-- pcbc_enc or pcbc_dec of a unit, as the stream's direction says, with W moved (R295). -/
theorem State.cipherUnit_pcbc {s : State} (u : List Byte) (h : s.mode = .pcbc) {r : Block × List Byte}
    (hr : r = if s.dir = .enc then pcbcEnc s.bcKey s.bcRounds.toNat s.w u else pcbcDec s.bcKey s.bcRounds.toNat s.w u) :
    s.cipherUnit u = ({ s with w := r.1 }, r.2) := by
  subst hr
  unfold State.cipherUnit
  rw [h]
  cases s.dir <;> rfl

theorem State.nonfinal_stream {s : State} (u : List Byte) (h : s.mode = .stream) :
    s.nonfinal u = .ok ((s.ksXor u).1.emit (s.ksXor u).2) := by
  unfold State.nonfinal
  rw [h]

theorem State.nonfinal_digest {s : State} (u : List Byte) (h : s.mode = .digest) :
    s.nonfinal u = .ok (s.absorb u false) := by
  unfold State.nonfinal
  rw [h]

theorem State.nonfinal_block {s : State} (u : List Byte) (h : s.mode = .ecb ∨ s.mode = .pcbc) : s.nonfinal u =
    if u.length % 8 = 0 then .ok ((s.cipherUnit u).1.emit (s.cipherUnit u).2) else .error .invalidArg := by
  unfold State.nonfinal misaligned
  by_cases hu : u.length % 8 = 0
  · rcases h with h | h <;> simp [h, hu]
  · rcases h with h | h <;> simp [h, hu]

/-! ## CO_UNIT (R292) -/

/-- The checks CO_UNIT makes, in order (R292). -/
def State.unitChecks (s : State) : List (Bool × ErrCause) :=
  [(!s.streamOpen, .state), (s.ocount != 0, .state), (decide (s.chunkSize.toNat < s.len.toNat), .invalidArg)]

theorem exec_coUnit (s : State) : exec .coUnit s = runCommand 0x61 s s.unitChecks s.acceptUnit := rfl

theorem runCommand_effect_error {op : Byte} {s : State} {cs : List (Bool × ErrCause)} {e : ErrCause}
    (h : firstError cs = none) : runCommand op s cs (.error e) = .next (s.raise e op) := by
  simp [runCommand, h]

/-- A unit is held, both output slots are free and LEN is in range: CO_UNIT's checks pass and it processes HOLD. -/
structure State.UnitTurnsOver (s : State) : Prop where
  holding : s.coState = .holding
  slotsFree : s.ocount = 0
  lenOk : s.len.toNat ≤ s.chunkSize.toNat

namespace State.UnitTurnsOver

variable {s : State} (h : s.UnitTurnsOver)
include h

theorem firstError_unitChecks : firstError s.unitChecks = none := by
  simp [State.unitChecks, firstError_eq_none, State.streamOpen, h.holding, h.slotsFree, h.lenOk]

theorem exec_of_error {e : ErrCause} (he : s.nonfinal s.hold = .error e) : exec .coUnit s = .next (s.raise e 0x61) := by
  rw [exec_coUnit, State.acceptUnit, h.holding, he]
  exact runCommand_effect_error h.firstError_unitChecks

theorem exec_of_ok {t : State} (ht : s.nonfinal s.hold = .ok t) :
    exec .coUnit s = .next { t with hold := s.readBytes 0x10000 s.len.toNat, coState := s.coState } := by
  rw [exec_coUnit, State.acceptUnit, h.holding, ht]
  exact runCommand_ok h.firstError_unitChecks

/-- An emitted result goes to slot 0 (R293). -/
theorem exec_of_emit {t : State} {out : List Byte} (ht : s.nonfinal s.hold = .ok (t.emit out)) (hocount : t.ocount = s.ocount)
    (hout : out.length = s.hold.length) :
    exec .coUnit s = .next { t with
      mem := Memory.storeBytes t.mem 0x20000 out, outLen0 := BitVec.ofNat 17 s.hold.length, ocount := 1,
      hold := s.readBytes 0x10000 s.len.toNat, coState := s.coState } := by
  rw [h.exec_of_ok ht, State.emit_slot0 out (hocount.trans h.slotsFree), hout]
  rfl

/-- The result of an aligned unit in ECB and PCBC is as long as the unit. -/
theorem exec_of_cipherUnit (hmode : s.mode = .ecb ∨ s.mode = .pcbc) (haligned : s.hold.length % 8 = 0) {t : State}
    {out : List Byte} (hcipher : s.cipherUnit s.hold = (t, out)) (hocount : t.ocount = s.ocount) :
    exec .coUnit s = .next { t with
      mem := Memory.storeBytes t.mem 0x20000 out, outLen0 := BitVec.ofNat 17 s.hold.length, ocount := 1,
      hold := s.readBytes 0x10000 s.len.toNat, coState := s.coState } := by
  have hout : out.length = s.hold.length := by
    rw [← congrArg (·.2.length) hcipher, State.length_cipherUnit]
    omega
  exact h.exec_of_emit (by rw [State.nonfinal_block _ hmode, if_pos haligned, hcipher]) hocount hout

end State.UnitTurnsOver

/-- Settles O45: the checks pass, so CO_UNIT is the mode's `nonfinal` of HOLD, emitted to slot 0 except in DIGEST. -/
theorem coUnitProcessesTheHeldUnit : Obligations.CoUnitProcessesTheHeldUnit := by
  unfold Obligations.CoUnitProcessesTheHeldUnit
  rintro s _ hholding hslots hlen rfl
  have h : s.UnitTurnsOver := ⟨hholding, hslots, hlen⟩
  refine ⟨?stream, ?digest, ?misaligned, ?ecb, ?pcbc⟩
  case stream =>
    exact fun hm => h.exec_of_emit (State.nonfinal_stream _ hm) rfl (length_ksXor ..)
  case digest =>
    exact fun hm => h.exec_of_ok (State.nonfinal_digest _ hm)
  case misaligned =>
    exact fun hm hmis => h.exec_of_error ((State.nonfinal_block _ hm).trans (if_neg hmis))
  case ecb =>
    rintro hm haligned _ rfl
    exact h.exec_of_cipherUnit (.inl hm) haligned (State.cipherUnit_ecb _ hm) rfl
  case pcbc =>
    rintro hm haligned r hr
    exact h.exec_of_cipherUnit (.inr hm) haligned (State.cipherUnit_pcbc _ hm hr) rfl

end Sys2Proof.Machine
end

section
/-! # Settling the statement about NOP and OUT_ACK (46_control.md R340, R342)

The FAILED gate stops a word only when it is none of its three words, so a word of the gate that decodes runs its command in every
state. NOP and OUT_ACK then make no check. -/

namespace Sys2Proof.Machine

/-- R363: a word that the FAILED gate lets through runs the command it decodes to, FAILED or not. -/
theorem issue_of_passesGate {c : Word} {i : Instr} (s : State) (hgate : passesGate c = true) (hi : decode c = .ok i) :
    issue c s = exec i s := by
  rcases issue_cases c s with ⟨-, hblocked, -⟩ | ⟨-, ⟨e, he⟩, -⟩ | ⟨-, j, hj, hrun⟩
  · exact absurd (hgate.symm.trans hblocked) Bool.noConfusion
  · exact absurd (hi.symm.trans he) nofun
  · obtain rfl : i = j := Except.ok.inj (hi.symm.trans hj)
    exact hrun

theorem exec_nop (s : State) : exec .nop s = runCommand 0x00 s [] (.ok s) := rfl

theorem exec_outAck (s : State) : exec .outAck s = runCommand 0x02 s [] (.ok { s with ocount := 0 }) := rfl

/-- Settles O14: both words pass the FAILED gate, and with no check to raise, each command's effect is the next state. -/
theorem nopAndOutAckResults : Obligations.NopAndOutAckResults := by
  unfold Obligations.NopAndOutAckResults
  intro s
  refine ⟨?nopRuns, ?nop, ?outAckRuns, ?outAck⟩
  case nopRuns => exact issue_of_passesGate s (by decide) (by decide)
  case nop => exact (exec_nop s).trans (runCommand_ok firstError_nil)
  case outAckRuns => exact issue_of_passesGate s (by decide) (by decide)
  case outAck => exact (exec_outAck s).trans (runCommand_ok firstError_nil)

end Sys2Proof.Machine
end

section
/-! # Settling the statements about the FAILED gate and the precise error (60_exceptions.md R362, R363)

Both statements are about the three error fields, which one projection gathers. A command raises, resets or leaves them alone, and
so does a bus write; while FAILED = 1 only RESET's word is left of the ways to change them. -/

namespace Sys2Proof

/-! ## OP of a decoded word (R131, R137) -/

/-- OP of the commands a row of the opcode map gives (R137). -/
def OpcodeRow.opcode : OpcodeRow → BitVec 8
  | .plain i => i.opcode
  | .select => 0x10
  | .selectTap => 0x11
  | .openStream => 0x60

theorem OpcodeRow.opcode_of_mem_opcodeMap {op : BitVec 8} {r : OpcodeRow} (h : (op, r) ∈ opcodeMap) : r.opcode = op := by
  have hrows : ∀ p ∈ opcodeMap, p.2.opcode = p.1 := by decide
  exact hrows (op, r) h

theorem OpcodeRow.opcode_of_operands {r : OpcodeRow} {c : Word} {i : Instr} (h : r.operands c = .ok i) :
    i.opcode = r.opcode := by
  cases r <;> simp only [operands] at h
  case plain j => cases h; rfl
  all_goals
    split at h <;> cases h
    rfl

theorem opcode_of_decode {c : Word} {i : Instr} (h : decode c = .ok i) : i.opcode = fieldOp c := by
  unfold decode at h
  cases hrow : opcodeMap.lookup (fieldOp c) with
  | none => simp [hrow] at h
  | some r =>
    have hoperands : r.operands c = .ok i := by
      simp only [hrow] at h
      split at h
      · exact h
      · cases h
    calc
      i.opcode = r.opcode := OpcodeRow.opcode_of_operands hoperands
      _ = fieldOp c := OpcodeRow.opcode_of_mem_opcodeMap (lookup_opcodeMap_eq_some_iff.mp hrow)

end Sys2Proof

namespace Sys2Proof.Machine

/-! ## The error fields (R54, R362) -/

/-- FAILED, ERR and ERR_OP, the fields that raise writes (R362). -/
def State.errorRecord (s : State) : Bool × Option ErrCause × Byte := (s.failed, s.err, s.errOp)

theorem State.errorRecord_eq_iff {s t : State} :
    t.errorRecord = s.errorRecord ↔ t.failed = s.failed ∧ t.err = s.err ∧ t.errOp = s.errOp := by
  simp [errorRecord]

@[simp] theorem State.errorRecord_emit (s : State) (u : List Byte) : (s.emit u).errorRecord = s.errorRecord := by
  simp [errorRecord]

@[simp] theorem State.errorRecord_writeCsr (s : State) (c : Csr) (v : Word) :
    (s.writeCsr c v).errorRecord = s.errorRecord := by
  simp [errorRecord]

theorem State.errorRecord_nonfinal {s t : State} {u : List Byte} (h : s.nonfinal u = .ok t) :
    t.errorRecord = s.errorRecord := by
  rcases nonfinal_cases h with ⟨_, _, _, -, -, rfl⟩ | ⟨_, _, _, -, -, rfl⟩ | ⟨_, _, -, -, rfl⟩
  · rfl
  · exact errorRecord_emit _ _
  · exact errorRecord_emit _ _

theorem State.errorRecord_final {s t : State} {u : List Byte} (h : s.final u = .ok t) : t.errorRecord = s.errorRecord := by
  rcases final_cases h with
    ⟨_, _, _, _, -, -, -, rfl⟩ | ⟨_, _, _, -, -, rfl⟩ | ⟨_, _, -, -, rfl⟩ | ⟨w, _, out, _, -, -, -, rfl⟩
  · exact errorRecord_emit _ _
  · exact errorRecord_emit _ _
  · exact errorRecord_emit _ _
  · exact (errorRecord_emit _ _).trans (errorRecord_emit { s with w := w } out)

theorem State.errorRecord_acceptUnit {s t : State} (h : s.acceptUnit = .ok t) : t.errorRecord = s.errorRecord := by
  rcases acceptUnit_cases h with ⟨-, rfl⟩ | ⟨u, -, hu, rfl⟩
  · rfl
  · have hkeep : u.errorRecord = s.errorRecord := errorRecord_nonfinal hu
    exact hkeep

theorem State.errorRecord_endStream {s t : State} (h : s.endStream = .ok t) : t.errorRecord = s.errorRecord := by
  obtain ⟨u, hu, rfl⟩ := endStream_cases h
  have hkeep : u.errorRecord = s.errorRecord := errorRecord_final hu
  exact hkeep

/-! ## What a command does to the error fields (R362) -/

theorem exec_reset (s : State) : exec .reset s = .next s.doReset := rfl

/-- No effect of a command but RESET's writes an error field; only raise does. -/
theorem exec_eq_runCommand_errorRecord {i : Instr} (s : State) (hi : i ≠ .reset) :
    ∃ (cs : List (Bool × ErrCause)) (eff : Except ErrCause State),
      exec i s = runCommand i.opcode s cs eff ∧ ∀ t, eff = .ok t → t.errorRecord = s.errorRecord := by
  cases i
  case reset => exact absurd rfl hi
  case nop => exact ⟨_, _, exec_nop s, fun t ht => by cases ht; rfl⟩
  case outAck => exact ⟨_, _, exec_outAck s, fun t ht => by cases ht; rfl⟩
  case coUnit => exact ⟨_, _, rfl, fun _ => State.errorRecord_acceptUnit⟩
  case coEnd => exact ⟨_, _, rfl, fun _ => State.errorRecord_endStream⟩
  all_goals
    exact ⟨_, .ok _, rfl, fun t ht => by cases ht; rfl⟩

/-- A command raises with its own opcode, is RESET, or leaves the error fields as they were. -/
theorem exec_errorRecord_cases {i : Instr} {s t : State} (h : exec i s = .next t) :
    (∃ e, t = s.raise e i.opcode) ∨ (i = .reset ∧ t = s.doReset) ∨ t.errorRecord = s.errorRecord := by
  by_cases hi : i = .reset
  · subst hi
    cases h
    exact .inr (.inl ⟨rfl, rfl⟩)
  · obtain ⟨cs, eff, hrun, hkeep⟩ := exec_eq_runCommand_errorRecord s hi
    rcases runCommand_cases (hrun.symm.trans h) with ⟨e, -, ht⟩ | ⟨-, ht⟩
    · exact .inl ⟨e, ht⟩
    · exact .inr (.inr (hkeep t ht))

/-- Settles O7: a word that sets FAILED either does not decode or is a command's raise, and OP is the command's opcode. -/
theorem errorsArePrecise : Obligations.ErrorsArePrecise := by
  unfold Obligations.ErrorsArePrecise
  intro c s t hs hissue ht
  rcases issue_cases c s with ⟨hfailed, -⟩ | ⟨-, -, hraise⟩ | ⟨-, i, hi, hrun⟩
  · simp [hs] at hfailed
  · cases hraise.symm.trans hissue
    exact ⟨.illegal, rfl⟩
  · rcases exec_errorRecord_cases (hrun.symm.trans hissue) with ⟨e, rfl⟩ | ⟨-, rfl⟩ | hkeep
    · exact ⟨e, congrArg (s.raise e) (opcode_of_decode hi)⟩
    · cases ht
    · obtain ⟨hfailed, -⟩ := State.errorRecord_eq_iff.mp hkeep
      simp [hfailed, hs] at ht

/-! ## The FAILED gate (R363) -/

theorem passesGate_eq_false {c : Word} (h0 : c ≠ 0x00000000) (h1 : c ≠ 0x00000001) (h2 : c ≠ 0x00000002) :
    passesGate c = false := by
  simp only [passesGate, Bool.or_eq_false_iff, beq_eq_false_iff_ne]
  exact ⟨⟨h0, h1⟩, h2⟩

theorem issue_of_gate_closed {c : Word} {s : State} (hs : s.failed = true) (hc : passesGate c = false) :
    issue c s = .next s := if_pos ⟨hs, hc⟩

theorem issue_nop (s : State) : issue 0x00000000 s = .next s := by
  obtain ⟨hrun, hnop, -⟩ := nopAndOutAckResults s
  exact hrun.trans hnop

theorem issue_reset (s : State) : issue 0x00000001 s = .next s.doReset :=
  (issue_of_passesGate s (by decide) (by decide)).trans (exec_reset s)

theorem issue_outAck (s : State) : issue 0x00000002 s = .next { s with ocount := 0 } := by
  obtain ⟨-, -, hrun, hack⟩ := nopAndOutAckResults s
  exact hrun.trans hack

/-- While FAILED = 1 a word written to CMD is RESET's or leaves the error fields as they were. -/
theorem issue_failed_errorRecord {c : Word} {s t : State} (hs : s.failed = true) (h : issue c s = .next t) :
    (c = 0x00000001 ∧ t = s.doReset) ∨ t.errorRecord = s.errorRecord := by
  by_cases h0 : c = 0x00000000
  · subst h0
    cases (issue_nop s).symm.trans h
    exact .inr rfl
  by_cases h1 : c = 0x00000001
  · subst h1
    cases (issue_reset s).symm.trans h
    exact .inl ⟨rfl, rfl⟩
  by_cases h2 : c = 0x00000002
  · subst h2
    cases (issue_outAck s).symm.trans h
    exact .inr rfl
  cases (issue_of_gate_closed hs (passesGate_eq_false h0 h1 h2)).symm.trans h
  exact .inr rfl

/-! ## What a bus write does to the error fields (R72, R97) -/

theorem accessOk_of_accessRefusal_eq_none {s : State} {wd : Width} {a : BitVec 18} (h : s.accessRefusal wd a = none) :
    accessOk wd a = true := by
  by_contra hbad
  rw [Bool.not_eq_true] at hbad
  unfold State.accessRefusal at h
  split_ifs at h

theorem offset_of_ofOffset {o : Nat} {c : Csr} (h : Csr.ofOffset o = some c) : c.offset = o := by
  simpa using List.find?_some h

/-- Only CMD's address leads to `issue`, and only at 32 bits. -/
theorem busWrite_cmd_or_errorRecord {wd : Width} {a : BitVec 18} (v : Word) (s : State) (hok : accessOk wd a = true) :
    (wd = .w32 ∧ a = Csr.cmd.addr ∧ busWrite wd a v s = issue v s) ∨
      ∃ t, busWrite wd a v s = .next t ∧ t.errorRecord = s.errorRecord := by
  by_cases ha : a = Csr.cmd.addr
  · subst ha
    have hwd : wd = .w32 := by revert hok; cases wd <;> decide
    subst hwd
    exact .inl ⟨rfl, rfl, busWrite_addr s .cmd v⟩
  · right
    unfold busWrite
    cases regionOf a
    case csr =>
      cases hc : Csr.ofOffset a.toNat with
      | none => exact ⟨s, rfl, rfl⟩
      | some c =>
        have hcmd : c ≠ .cmd := by
          rintro rfl
          exact ha (BitVec.eq_of_toNat_eq (offset_of_ofOffset hc).symm)
        refine ⟨s.writeCsr c v, ?_, State.errorRecord_writeCsr s c v⟩
        cases c
        case cmd => exact absurd rfl hcmd
        all_goals rfl
    case ibuf => exact ⟨_, rfl, rfl⟩
    all_goals exact ⟨s, rfl, rfl⟩

/-- R363, R368: while FAILED = 1 a step leaves the error fields as they were, unless it is the reset input or issues RESET. -/
theorem step_failed_errorRecord {s t : State} (hs : s.failed = true) (h : step s = .next t) :
    t.errorRecord = s.errorRecord ∨ s.pending = .resetInput :: t.pending ∨
      s.pending = .write .w32 0x00008 0x00000001 :: t.pending := by
  rcases step_cases h with
    ⟨-, rfl⟩ | ⟨x, rest, hp, ⟨rfl, rfl⟩ | ⟨wd, a, rfl, -, rfl⟩ | ⟨wd, a, v, rfl, href, hwrite⟩⟩
  · exact .inl rfl
  · exact .inr (.inl hp)
  · exact .inl rfl
  · rcases busWrite_cmd_or_errorRecord v { s with pending := rest } (accessOk_of_accessRefusal_eq_none href)
      with ⟨rfl, rfl, hissue⟩ | ⟨u, hu, hkeep⟩
    · rcases issue_failed_errorRecord (s := { s with pending := rest }) hs (hissue.symm.trans hwrite) with ⟨rfl, rfl⟩ | hkeep
      · exact .inr (.inr hp)
      · exact .inl hkeep
    · cases hu.symm.trans hwrite
      exact .inl hkeep

/-- Settles O6: a write to CMD is `issue`, whose gate lets three words through; every other access is as it is without FAILED. -/
theorem failedGateUntilReset : Obligations.FailedGateUntilReset := by
  unfold Obligations.FailedGateUntilReset
  intro s rest hs hb
  have hcmd {v : Word} (hp : s.pending = .write .w32 0x00008 v :: rest) : step s = issue v { s with pending := rest } :=
    (step_writeCsr (c := .cmd) hb hp).trans (if_pos rfl)
  refine ⟨?ignored, ?nop, ?reset, ?outAck, ?csrWrite, ?read, ?errorFields⟩
  case ignored =>
    exact fun c h0 h1 h2 hp => (hcmd hp).trans (issue_of_gate_closed hs (passesGate_eq_false h0 h1 h2))
  case nop => exact fun hp => (hcmd hp).trans (issue_nop _)
  case reset => exact fun hp => (hcmd hp).trans (issue_reset _)
  case outAck => exact fun hp => (hcmd hp).trans (issue_outAck _)
  case csrWrite => exact fun c v hc hp => (step_writeCsr hb hp).trans (if_neg hc)
  case read => exact fun wd a hok hp => step_read hb hok hp
  case errorFields =>
    intro t ht
    have hrecord := step_failed_errorRecord hs ht
    rwa [State.errorRecord_eq_iff, hs] at hrecord

end Sys2Proof.Machine
end

section
/-! # Settling the statements about the encoding (30_encoding.md R131 to R138, R143)

A word that decodes does so by the row of the opcode map that carries its OP, and a row's format says which fields a word may set.
The formats and the fields are told as numbers, so that packing the fields of a word and reading the fields of a packed word are
each arithmetic; the operand codes are inverse to their tables. -/

namespace Sys2Proof

/-! ## Decoding by a row of the opcode map (R137, R138) -/

theorem decode_of_row {c : Word} {r : OpcodeRow} {i : Instr} (hrow : (fieldOp c, r) ∈ opcodeMap)
    (hclear : r.reservedClear c = true) (hoperands : r.operands c = .ok i) : decode c = .ok i := by
  simp only [decode, lookup_opcodeMap_eq_some_iff.mpr hrow, hclear, if_pos, hoperands]

/-- A word that decodes has a row: its OP is in the map, its reserved bits are clear and its operands give the command. -/
theorem exists_row_of_decode {c : Word} {i : Instr} (h : decode c = .ok i) :
    ∃ r, (fieldOp c, r) ∈ opcodeMap ∧ r.reservedClear c = true ∧ r.operands c = .ok i := by
  unfold decode at h
  cases hrow : opcodeMap.lookup (fieldOp c) with
  | none => simp [hrow] at h
  | some r =>
    simp only [hrow] at h
    split at h
    · exact ⟨r, lookup_opcodeMap_eq_some_iff.mp hrow, by assumption, h⟩
    · cases h

/-! ## The operand codes (R133, R135) -/

@[simp] theorem LfsrId.ofSel_sel (n : LfsrId) : LfsrId.ofSel n.sel = some n := by cases n <;> rfl

@[simp] theorem Mode.ofSel_sel (m : Mode) : Mode.ofSel m.sel = some m := by cases m <;> rfl

@[simp] theorem Dir.ofCode_code (d : Dir) : Dir.ofCode d.code = d := by cases d <;> rfl

theorem LfsrId.sel_of_ofSel {v : BitVec 4} {n : LfsrId} (h : LfsrId.ofSel v = some n) : n.sel = v := by
  unfold LfsrId.ofSel at h
  split_ifs at h with h1 h2 h3 h4 <;> cases h
  · exact h1.symm
  · exact h2.symm
  · exact h3.symm
  · exact h4.symm

theorem Mode.sel_of_ofSel {v : BitVec 4} {m : Mode} (h : Mode.ofSel v = some m) : m.sel = v := by
  unfold Mode.ofSel at h
  split_ifs at h with h1 h2 h3 h4 <;> cases h
  · exact h1.symm
  · exact h2.symm
  · exact h3.symm
  · exact h4.symm

theorem Dir.code_ofCode (v : BitVec 1) : (Dir.ofCode v).code = v := by decide +revert

theorem ofBool_beq_one (v : BitVec 1) : BitVec.ofBool (v == 1) = v := by decide +revert

theorem ofBool_eq_one (p : Bool) : (BitVec.ofBool p == 1) = p := by cases p <;> rfl

/-! ## The formats and the fields as numbers (R131, R132) -/

theorem toNat_fieldDir (c : Word) : (fieldDir c).toNat = c.toNat / 4096 % 2 := by
  simp [fieldDir, Nat.shiftRight_eq_div_pow]

theorem toNat_fieldPad (c : Word) : (fieldPad c).toNat = c.toNat / 8192 % 2 := by
  simp [fieldPad, Nat.shiftRight_eq_div_pow]

theorem toNat_fieldTap (c : Word) : (fieldTap c).toNat = c.toNat / 65536 % 32 := by
  simp [fieldTap, Nat.shiftRight_eq_div_pow]

theorem toNat_packN (op : BitVec 8) : (packN op).toNat = op.toNat := BitVec.toNat_setWidth_of_le (by decide)

theorem toNat_packS (sel : BitVec 4) (op : BitVec 8) : (packS sel op).toNat = sel.toNat * 256 + op.toNat := by
  have hop : (op.setWidth 32).toNat = op.toNat := toNat_packN op
  rw [packS, Machine.toNat_field_or (k := 8) sel _ (by decide) (hop ▸ op.isLt), hop]
  rfl

theorem toNat_packT (tap : BitVec 5) (sel : BitVec 4) (op : BitVec 8) :
    (packT tap sel op).toNat = tap.toNat * 65536 + sel.toNat * 256 + op.toNat := by
  have hlow : (packS sel op).toNat = sel.toNat * 256 + op.toNat := toNat_packS sel op
  have hword : packT tap sel op = (tap.setWidth 32 <<< 16) ||| packS sel op := BitVec.or_assoc ..
  rw [hword, Machine.toNat_field_or (k := 16) tap _ (by decide) (by omega), hlow]
  omega

theorem toNat_packO (pad dir : BitVec 1) (mode : BitVec 4) (op : BitVec 8) :
    (packO pad dir mode op).toNat = pad.toNat * 8192 + dir.toNat * 4096 + mode.toNat * 256 + op.toNat := by
  have hlow : (packS mode op).toNat = mode.toNat * 256 + op.toNat := toNat_packS mode op
  have hdir := Machine.toNat_field_or (k := 12) dir (packS mode op) (by decide) (by omega)
  have hword : packO pad dir mode op = (pad.setWidth 32 <<< 13) ||| ((dir.setWidth 32 <<< 12) ||| packS mode op) := by
    simp only [packO, packS, BitVec.or_assoc]
  rw [hword, Machine.toNat_field_or (k := 13) pad _ (by decide) (by omega), hdir, hlow]
  omega

/-! ## Reading the fields of a packed word -/

theorem reservedClear_packN (j : Instr) (op : BitVec 8) : (OpcodeRow.plain j).reservedClear (packN op) = true := by
  have hreserved := (extractLsb'_high_eq_zero (c := packN op) (k := 8) (by decide)).mpr
  rw [toNat_packN] at hreserved
  exact beq_iff_eq.mpr (hreserved op.isLt)

theorem reservedClear_packS (sel : BitVec 4) (op : BitVec 8) : OpcodeRow.select.reservedClear (packS sel op) = true := by
  have hreserved := (extractLsb'_high_eq_zero (c := packS sel op) (k := 12) (by decide)).mpr
  rw [toNat_packS] at hreserved
  exact beq_iff_eq.mpr (hreserved (by omega))

theorem fieldSel_packS (sel : BitVec 4) (op : BitVec 8) : fieldSel (packS sel op) = sel := by
  apply BitVec.eq_of_toNat_eq
  rw [toNat_fieldSel, toNat_packS]
  omega

theorem reservedClear_packT (tap : BitVec 5) (sel : BitVec 4) (op : BitVec 8) :
    OpcodeRow.selectTap.reservedClear (packT tap sel op) = true := by
  have hword := toNat_packT tap sel op
  have hreserved := (extractLsb'_high_eq_zero (c := packT tap sel op) (k := 21) (by decide)).mpr (by omega)
  have hgap : (packT tap sel op).extractLsb' 12 4 = 0 := by
    apply BitVec.eq_of_toNat_eq
    rw [BitVec.extractLsb'_toNat, Nat.shiftRight_eq_div_pow]
    show _ = 0
    omega
  exact Bool.and_eq_true_iff.mpr ⟨beq_iff_eq.mpr hreserved, beq_iff_eq.mpr hgap⟩

theorem fieldSel_packT (tap : BitVec 5) (sel : BitVec 4) (op : BitVec 8) : fieldSel (packT tap sel op) = sel := by
  apply BitVec.eq_of_toNat_eq
  rw [toNat_fieldSel, toNat_packT]
  omega

theorem fieldTap_packT (tap : BitVec 5) (sel : BitVec 4) (op : BitVec 8) : fieldTap (packT tap sel op) = tap := by
  apply BitVec.eq_of_toNat_eq
  rw [toNat_fieldTap, toNat_packT]
  omega

theorem reservedClear_packO (pad dir : BitVec 1) (mode : BitVec 4) (op : BitVec 8) :
    OpcodeRow.openStream.reservedClear (packO pad dir mode op) = true := by
  have hreserved := (extractLsb'_high_eq_zero (c := packO pad dir mode op) (k := 14) (by decide)).mpr
  rw [toNat_packO] at hreserved
  exact beq_iff_eq.mpr (hreserved (by omega))

theorem fieldSel_packO (pad dir : BitVec 1) (mode : BitVec 4) (op : BitVec 8) : fieldSel (packO pad dir mode op) = mode := by
  apply BitVec.eq_of_toNat_eq
  rw [toNat_fieldSel, toNat_packO]
  omega

theorem fieldDir_packO (pad dir : BitVec 1) (mode : BitVec 4) (op : BitVec 8) : fieldDir (packO pad dir mode op) = dir := by
  apply BitVec.eq_of_toNat_eq
  rw [toNat_fieldDir, toNat_packO]
  omega

theorem fieldPad_packO (pad dir : BitVec 1) (mode : BitVec 4) (op : BitVec 8) : fieldPad (packO pad dir mode op) = pad := by
  apply BitVec.eq_of_toNat_eq
  rw [toNat_fieldPad, toNat_packO]
  omega

/-! ## Packing the fields of a word whose reserved bits are clear -/

theorem packN_fieldOp {c : Word} {j : Instr} (h : (OpcodeRow.plain j).reservedClear c = true) : packN (fieldOp c) = c := by
  have hreserved := (extractLsb'_high_eq_zero (k := 8) (by decide)).mp (beq_iff_eq.mp h)
  apply BitVec.eq_of_toNat_eq
  rw [toNat_packN, toNat_fieldOp]
  omega

theorem packS_fields {c : Word} (h : OpcodeRow.select.reservedClear c = true) : packS (fieldSel c) (fieldOp c) = c := by
  have hreserved := (extractLsb'_high_eq_zero (k := 12) (by decide)).mp (beq_iff_eq.mp h)
  apply BitVec.eq_of_toNat_eq
  rw [toNat_packS, toNat_fieldSel, toNat_fieldOp]
  omega

theorem packT_fields {c : Word} (h : OpcodeRow.selectTap.reservedClear c = true) :
    packT (fieldTap c) (fieldSel c) (fieldOp c) = c := by
  obtain ⟨hhigh, hgap⟩ := Bool.and_eq_true_iff.mp h
  have hreserved := (extractLsb'_high_eq_zero (k := 21) (by decide)).mp (beq_iff_eq.mp hhigh)
  have hmid : (c.extractLsb' 12 4).toNat = 0 := congrArg BitVec.toNat (beq_iff_eq.mp hgap)
  rw [BitVec.extractLsb'_toNat, Nat.shiftRight_eq_div_pow] at hmid
  apply BitVec.eq_of_toNat_eq
  rw [toNat_packT, toNat_fieldTap, toNat_fieldSel, toNat_fieldOp]
  omega

theorem packO_fields {c : Word} (h : OpcodeRow.openStream.reservedClear c = true) :
    packO (fieldPad c) (fieldDir c) (fieldSel c) (fieldOp c) = c := by
  have hreserved := (extractLsb'_high_eq_zero (k := 14) (by decide)).mp (beq_iff_eq.mp h)
  apply BitVec.eq_of_toNat_eq
  rw [toNat_packO, toNat_fieldPad, toNat_fieldDir, toNat_fieldSel, toNat_fieldOp]
  omega

/-! ## Encode, then decode -/

theorem decode_packN {i : Instr} (hrow : (i.opcode, .plain i) ∈ opcodeMap) : decode (packN i.opcode) = .ok i :=
  decode_of_row ((Laws.OpcodeByte.packN_op i.opcode).symm ▸ hrow) (reservedClear_packN i _) rfl

theorem decode_packS (n : LfsrId) : decode (packS n.sel 0x10) = .ok (.lfsrClock n) := by
  refine decode_of_row ((Laws.OpcodeByte.packS_op n.sel 0x10).symm ▸ by decide) (reservedClear_packS _ _) ?_
  simp [OpcodeRow.operands, fieldSel_packS]

theorem decode_packT {n : LfsrId} (tap : BitVec 5) (hn : n ≠ .r4) :
    decode (packT tap n.sel 0x11) = .ok (.lfsrOut n tap) := by
  refine decode_of_row ((Laws.OpcodeByte.packT_op tap n.sel 0x11).symm ▸ by decide) (reservedClear_packT _ _ _) ?_
  simp only [OpcodeRow.operands, fieldSel_packT, fieldTap_packT, LfsrId.ofSel_sel]

theorem decode_packO (m : Mode) (d : Dir) (p : Bool) :
    decode (packO (BitVec.ofBool p) d.code m.sel 0x60) = .ok (.coOpen m d p) := by
  refine decode_of_row ((Laws.OpcodeByte.packO_op (BitVec.ofBool p) d.code m.sel 0x60).symm ▸ by decide)
    (reservedClear_packO _ _ _ _) ?_
  simp only [OpcodeRow.operands, fieldSel_packO, fieldDir_packO, fieldPad_packO, Mode.ofSel_sel, Dir.ofCode_code,
    ofBool_eq_one]

/-- Settles O1: a format-N command has a row of its own in the map, and the fields of the other formats read back. -/
theorem encodeThenDecode : Obligations.EncodeThenDecode := by
  unfold Obligations.EncodeThenDecode
  intro i hwf
  cases i
  case lfsrClock n => exact decode_packS n
  case lfsrOut n tap => exact decode_packT tap (bne_iff_ne.mp hwf)
  case coOpen m d p => exact decode_packO m d p
  all_goals exact decode_packN (by decide)

/-! ## Decode, then encode -/

/-- The operands a row reads make a well-formed command, whose fields are the word's. -/
theorem encode_of_operands {r : OpcodeRow} {c : Word} {i : Instr} (hrow : (fieldOp c, r) ∈ opcodeMap)
    (hclear : r.reservedClear c = true) (h : r.operands c = .ok i) : i.WellFormed ∧ encode i = c := by
  have hop : i.opcode = fieldOp c := (OpcodeRow.opcode_of_operands h).trans (OpcodeRow.opcode_of_mem_opcodeMap hrow)
  cases r with
  | plain j =>
    have hformatN : ∀ k, (k.opcode, .plain k) ∈ opcodeMap → k.WellFormed ∧ encode k = packN k.opcode := by
      intro k hk
      cases k
      case lfsrClock | lfsrOut | coOpen => simp [opcodeMap] at hk
      all_goals exact ⟨rfl, rfl⟩
    cases h
    obtain ⟨hwf, henc⟩ := hformatN i (hop ▸ hrow)
    exact ⟨hwf, by rw [henc, hop, packN_fieldOp hclear]⟩
  | select =>
    simp only [OpcodeRow.operands] at h
    split at h <;> cases h
    rename_i n hn
    exact ⟨rfl, by rw [encode, hop, LfsrId.sel_of_ofSel hn, packS_fields hclear]⟩
  | selectTap =>
    simp only [OpcodeRow.operands] at h
    split at h <;> cases h
    rename_i n hr4 hn
    exact ⟨bne_iff_ne.mpr hr4, by rw [encode, hop, LfsrId.sel_of_ofSel hn, packT_fields hclear]⟩
  | openStream =>
    simp only [OpcodeRow.operands] at h
    split at h <;> cases h
    rename_i m hm
    exact ⟨rfl, by rw [encode, hop, Mode.sel_of_ofSel hm, Dir.code_ofCode, ofBool_beq_one, packO_fields hclear]⟩

/-- Settles O2: the row that decodes the word reads every field its format has, and the rest of the word is 0. -/
theorem decodeThenEncode : Obligations.DecodeThenEncode := by
  unfold Obligations.DecodeThenEncode
  intro c i h
  obtain ⟨r, hrow, hclear, hoperands⟩ := exists_row_of_decode h
  exact encode_of_operands hrow hclear hoperands

/-- Settles O3: each word is the encoded word of its command. -/
theorem workedEncodingsDecode : Obligations.WorkedEncodingsDecode := by
  unfold Obligations.WorkedEncodingsDecode
  have hword {c : Word} {i : Instr} (hi : i.WellFormed) (hc : encode i = c) : decode c = .ok i := hc ▸ encodeThenDecode i hi
  and_intros
  all_goals exact hword (by decide) (by decide)

end Sys2Proof
end

section
/-! # Settling the statements about every command's checks and errors (60_exceptions.md R364, R365, R421)

Each command is the command frame with its own checks and its own effect, told here once for all twenty. What a command raises,
and that it answers at all, is then about the two tables. -/

namespace Sys2Proof.Machine

/-! ## The checks and the effect of each command -/

/-- The checks each command makes, in order (R364). -/
def checksOf (s : State) : Instr → List (Bool × ErrCause)
  | .nop | .reset | .outAck => []
  | .lfsrClock _ | .scLoad | .cmSetiv | .dgInit => [(s.streamOpen, .state)]
  | .lfsrOut n tap => [(n == .r4, .illegal), (s.streamOpen, .state), (!(outTaps n).contains tap.toNat, .invalidArg)]
  | .scWarmup => [(s.streamOpen, .state), (s.scState != .keyLoaded, .state)]
  | .scStep => [(s.streamOpen, .state), (s.scState != .running, .state)]
  | .bcSetkey => [(s.streamOpen, .state), (decide (s.rounds < 32), .invalidArg)]
  | .bcEnc | .bcDec => [(s.streamOpen, .state), (!s.bcReady, .state)]
  | .cmEnc | .cmDec => [(s.streamOpen, .state), (s.chainNotReady, .state)]
  | .dgAbsorb | .dgFinal => s.absorbChecks
  | .coOpen m d p =>
    [(s.streamOpen, .state), (s.engineNotReady m, .state), (badOptions m d p, .invalidArg),
      (badChunkSize m s.chunkSize.toNat, .invalidArg)]
  | .coUnit => s.unitChecks
  | .coEnd => [(!s.streamOpen, .state), (s.ocount != 0, .state)]

/-- What each command does once its checks pass. -/
def effectOf (s : State) : Instr → Except ErrCause State
  | .nop => .ok s
  | .reset => .ok s.doReset
  | .outAck => .ok { s with ocount := 0 }
  | .lfsrClock n => .ok { s with lfsr := s.lfsr.clock n }
  | .lfsrOut n tap => .ok { s with result := s.lfsr.outputBit tap.toNat n }
  | .scLoad => .ok { s with lfsr := (loadLfsrs s.streamKey s.scIv).sync, scState := .keyLoaded, scCnt := 0 }
  | .scWarmup => .ok { s with lfsr := Lfsrs.discard warmupBits s.lfsr, scState := .running, scCnt := 0 }
  | .scStep => .ok { s with lfsr := s.lfsr.step.1, result := s.lfsr.step.2, scCnt := s.scCnt + 1 }
  | .bcSetkey => .ok { s with bcReady := true }
  | .bcEnc => .ok { s with data := encryptBlock s.bcKey s.rounds s.data }
  | .bcDec => .ok { s with data := decryptBlock s.bcKey s.rounds s.data }
  | .cmSetiv => .ok { s with w := s.cmIv, cmReady := true }
  | .cmEnc => .ok { s with
      w := (pcbcEncBlock s.bcKey s.rounds s.w s.data).1, data := (pcbcEncBlock s.bcKey s.rounds s.w s.data).2 }
  | .cmDec => .ok { s with
      w := (pcbcDecBlock s.bcKey s.rounds s.w s.data).1, data := (pcbcDecBlock s.bcKey s.rounds s.w s.data).2 }
  | .dgInit => .ok { s with dgH := digestInit, dgCnt := 0, dgRes := [], dgState := .absorbing }
  | .dgAbsorb => .ok (s.absorb (s.ibuf s.len.toNat) false)
  | .dgFinal => .ok (s.absorb (s.ibuf s.len.toNat) true)
  | .coOpen m d p => .ok { s with mode := m, dir := d, pad := p, hold := [], coState := .opened }
  | .coUnit => s.acceptUnit
  | .coEnd => s.endStream

theorem exec_eq (i : Instr) (s : State) : exec i s = runCommand i.opcode s (checksOf s i) (effectOf s i) := by
  cases i <;> rfl

/-- A command that answers next t raises a cause that a check or its processing gives, or t is its effect. -/
theorem exec_cases {i : Instr} {s t : State} (h : exec i s = .next t) :
    (∃ e, ((true, e) ∈ checksOf s i ∨ effectOf s i = .error e) ∧ t = s.raise e i.opcode) ∨
      ((∀ c ∈ checksOf s i, c.1 = false) ∧ effectOf s i = .ok t) := by
  rcases runCommand_cases ((exec_eq i s).symm.trans h) with ⟨e, hcheck | ⟨-, heff⟩, ht⟩ | ⟨hpass, heff⟩
  · exact .inl ⟨e, .inl (firstError_mem hcheck), ht⟩
  · exact .inl ⟨e, .inr heff, ht⟩
  · exact .inr ⟨firstError_eq_none.mp hpass, heff⟩

/-- Settles O10: a command is one use of the command frame, which always answers a next state. -/
theorem everyCommandAnswersNext : Obligations.EveryCommandAnswersNext := by
  unfold Obligations.EveryCommandAnswersNext
  intro i s
  rw [exec_eq]
  exact runCommand_next _ _ _ _

/-! ## What a command raises (R365) -/

/-- A check that fires has a cause of the table; LFSR_OUT's first one cannot fire for a well-formed command. -/
theorem cause_of_check {i : Instr} {s : State} {e : ErrCause} (hi : i.WellFormed) (h : (true, e) ∈ checksOf s i) :
    e ∈ errorCauses i := by
  cases i
  case lfsrOut n tap =>
    have hr4 : (n == .r4) = false := beq_eq_false_iff_ne.mpr (bne_iff_ne.mp hi)
    simp only [checksOf, hr4, List.mem_cons, Prod.mk.injEq, Bool.true_eq_false, false_and, false_or, List.not_mem_nil,
      or_false] at h
    rcases h with ⟨-, rfl⟩ | ⟨-, rfl⟩ <;> simp [errorCauses]
  case nop | reset | outAck => cases h
  all_goals
    simp only [checksOf, State.absorbChecks, State.unitChecks, List.mem_cons, List.not_mem_nil, or_false, Prod.mk.injEq] at h
    simp only [errorCauses, List.mem_cons, List.not_mem_nil, or_false]
    tauto

/-- R295: a non-final unit raises nothing but E_INVALID_ARG. -/
theorem cause_of_nonfinal {s : State} {u : List Byte} {e : ErrCause} (h : s.nonfinal u = .error e) : e = .invalidArg := by
  unfold State.nonfinal at h
  split at h
  case h_1 | h_2 => cases h
  all_goals
    split at h <;> cases h
    rfl

theorem cause_of_removePadding {t : List Byte} {e : ErrCause} (h : removePadding t = .error e) : e = .padding := by
  unfold removePadding at h
  split at h
  · cases h; rfl
  · split at h <;> cases h
    rfl

/-- R296: a final unit raises nothing but E_INVALID_ARG and E_PADDING. -/
theorem cause_of_final {s : State} {u : List Byte} {e : ErrCause} (h : s.final u = .error e) :
    e = .invalidArg ∨ e = .padding := by
  have henc (h : s.finalEnc u = .error e) : e = .invalidArg := by
    unfold State.finalEnc at h
    split_ifs at h
    cases h
    rfl
  have hdec (h : s.finalDec u = .error e) : e = .invalidArg ∨ e = .padding := by
    unfold State.finalDec at h
    split_ifs at h
    · cases h
      exact .inl rfl
    · cases hp : removePadding (s.cipherUnit u).2 with
      | ok t => simp [hp] at h
      | error e' =>
        simp only [hp] at h
        cases h
        exact .inr (cause_of_removePadding hp)
  unfold State.final at h
  split at h
  case h_1 | h_2 => cases h
  all_goals
    split at h
    · exact .inl (henc h)
    · exact hdec h

/-- Only CO_UNIT and CO_END raise in the middle of their processing, with a cause of the table. -/
theorem cause_of_effect {i : Instr} {s : State} {e : ErrCause} (h : effectOf s i = .error e) : e ∈ errorCauses i := by
  cases i
  case coUnit =>
    simp only [effectOf, State.acceptUnit] at h
    split at h
    · split at h <;> cases h
      rename_i hunit
      rw [cause_of_nonfinal hunit]
      decide
    all_goals cases h
  case coEnd =>
    simp only [effectOf, State.endStream] at h
    split at h <;> cases h
    rename_i hunit
    rcases cause_of_final hunit with rfl | rfl <;> decide
  all_goals cases h

/-- No effect but RESET's writes an error field. -/
theorem effect_errorRecord {i : Instr} {s t : State} (hi : i ≠ .reset) (h : effectOf s i = .ok t) :
    t.errorRecord = s.errorRecord := by
  cases i
  case reset => exact absurd rfl hi
  case coUnit => exact State.errorRecord_acceptUnit h
  case coEnd => exact State.errorRecord_endStream h
  all_goals
    cases h
    rfl

/-- Settles O8: what sets FAILED is a raise, and its cause is that of a check or of the processing of a unit. -/
theorem errorCausesOfEachCommand : Obligations.ErrorCausesOfEachCommand := by
  unfold Obligations.ErrorCausesOfEachCommand
  intro i s t hi hs h ht
  rcases exec_cases h with ⟨e, hcheck | heff, rfl⟩ | ⟨-, heff⟩
  · exact ⟨e, cause_of_check hi hcheck, rfl⟩
  · exact ⟨e, cause_of_effect heff, rfl⟩
  · have hreset : i ≠ .reset := by
      rintro rfl
      cases heff
      cases ht
    obtain ⟨hfailed, -⟩ := State.errorRecord_eq_iff.mp (effect_errorRecord hreset heff)
    simp [hfailed, hs] at ht

/-! ## The stream check (R364 item 3) -/

theorem exec_of_firstError {i : Instr} {s : State} {e : ErrCause} (h : firstError (checksOf s i) = some e) :
    exec i s = .next (s.raise e i.opcode) :=
  (exec_eq i s).trans (runCommand_error h)

/-- A command that needs IDLE checks for an open stream first, or, LFSR_OUT, after a check that a well-formed command passes. -/
theorem firstError_open {i : Instr} {s : State} (hi : i.WellFormed) (hneeds : needsIdle i = true) (hopen : s.coState ≠ .idle) :
    firstError (checksOf s i) = some .state := by
  rw [← streamOpen_eq_true] at hopen
  cases i
  case nop | reset | outAck | coUnit | coEnd => cases hneeds
  case lfsrOut n tap =>
    have hr4 : (n == .r4) = false := beq_eq_false_iff_ne.mpr (bne_iff_ne.mp hi)
    simp [checksOf, hr4, hopen]
  all_goals simp [checksOf, State.absorbChecks, hopen]

/-- Settles O9: the stream check is the first that can fire, both in the commands that need IDLE and in CO_UNIT and CO_END. -/
theorem streamOpenCheck : Obligations.StreamOpenCheck := by
  unfold Obligations.StreamOpenCheck
  refine fun i s hi => ⟨fun hneeds hopen => exec_of_firstError (firstError_open hi hneeds hopen), fun hco hidle => ?_⟩
  rw [← streamOpen_eq_false] at hidle
  rcases hco with rfl | rfl
  · exact exec_of_firstError (by simp [checksOf, State.unitChecks, hidle])
  · exact exec_of_firstError (by simp [checksOf, hidle])

end Sys2Proof.Machine
end

section
/-! # Settling the statements about the machine's invariant (10_state.md sections 3 to 9, 45_coordinator.md section 1)

The invariant's six parts each speak of a few registers, so an update that touches none of them keeps it by definition. What is
left is a lemma for each update that does: raise, emit, holding a unit, closing the stream, storing a CSR. A step is made of
these. -/

namespace Sys2Proof.Machine

/-! ## The updates that touch a register of the invariant -/

theorem State.streamOk_of_idle {s : State} (h : s.coState = .idle) : s.StreamOk := fun hopen => absurd h hopen

/-- Written bytes keep the memory canonical, and inside the buffers if they lie there (R95). -/
theorem State.MemOk.writeBytes {s : State} (h : s.MemOk) {a : Nat} {bs : List Byte} (hlo : 0x10000 ≤ a)
    (hhi : a + bs.length ≤ 0x40000) : (s.writeBytes a bs).MemOk := by
  obtain ⟨hwf, hrange⟩ := h
  refine ⟨Memory.wf_storeBytes a bs hwf, fun c hc => ?_⟩
  rcases Memory.mem_storeBytes hc with ⟨h1, h2⟩ | hold
  · exact ⟨hlo.trans h1, h2.trans_le hhi⟩
  · exact hrange c hold

/-- The state of a stream that is closed: no unit held, CO_STATE IDLE (R294). -/
def State.closed (s : State) : State := { s with hold := [], coState := .idle }

theorem State.closed_emit (s : State) (u : List Byte) : (s.emit u).closed = s.closed.emit u :=
  apply_ite State.closed (s.ocount = 0) _ _

/-- Settles O59: reset lists no byte, holds no unit, records no error and has no stream open. -/
theorem invariantAtReset : Obligations.InvariantAtReset := by
  unfold Obligations.InvariantAtReset
  exact ⟨⟨reset_mem_wf, nofun⟩, by unfold State.SizesOk; decide, by unfold State.StatusOk; decide, nofun,
    by unfold State.HoldOk; decide, State.streamOk_of_idle rfl⟩

/-- The invariant speaks of no field that a reset keeps (log 14). -/
theorem State.inv_doReset (s : State) : s.doReset.Inv := invariantAtReset

namespace State.Inv

variable {s : State} (hs : s.Inv)
include hs

theorem chunkSize_le (hopen : s.coState ≠ .idle) : s.chunkSize.toNat ≤ 65536 := by
  obtain ⟨-, -, -, -, -, hstream⟩ := hs
  obtain ⟨-, -, hcs⟩ := hstream hopen
  obtain ⟨-, hle, -⟩ := badChunkSize_eq_false.mp hcs
  exact hle

theorem chunkSize_mod (hopen : s.coState ≠ .idle) (hblock : Mode.isBlock s.mode = true) : s.chunkSize.toNat % 8 = 0 := by
  obtain ⟨-, -, -, -, -, hstream⟩ := hs
  obtain ⟨-, -, hcs⟩ := hstream hopen
  obtain ⟨-, -, hmod⟩ := badChunkSize_eq_false.mp hcs
  exact hmod hblock

theorem raise {e : ErrCause} (op : Byte) (he : e ≠ .lane) : (s.raise e op).Inv := by
  obtain ⟨hmem, hsizes, ⟨-, -, -, hbusy⟩, hkey, hhold, hstream⟩ := hs
  exact ⟨hmem, hsizes, ⟨iff_of_true rfl nofun, nofun, fun h => he (Option.some.inj h), hbusy⟩, hkey, hhold, hstream⟩

/-- R293: an output unit fits its slot, and the slots are taken in order. -/
theorem emit {u : List Byte} (hfree : s.ocount = 0 ∨ s.ocount = 1) (hu : u.length ≤ 65536) : (s.emit u).Inv := by
  obtain ⟨hmem, ⟨hres, hheld, -, h0, h1⟩, hstatus, hkey, hhold, hstream⟩ := hs
  have hlen : (BitVec.ofNat 17 u.length).toNat ≤ chunkMax := (Nat.mod_le _ _).trans hu
  rcases hfree with h | h
  · rw [State.emit_slot0 u h]
    exact ⟨hmem.writeBytes (a := 0x20000) (by decide) (by omega), ⟨hres, hheld, Nat.le.step Nat.le.refl, hlen, h1⟩, hstatus,
      hkey, hhold, hstream⟩
  · rw [State.emit_slot1 u h]
    exact ⟨hmem.writeBytes (a := 0x30000) (by decide) (by omega), ⟨hres, hheld, Nat.le.refl, h0, hlen⟩, hstatus, hkey, hhold,
      hstream⟩

theorem holdUnit {u : List Byte} (hopen : s.coState ≠ .idle) (hu : u.length ≤ s.chunkSize.toNat) :
    State.Inv { s with hold := u, coState := .holding } := by
  have hle := hs.chunkSize_le hopen
  obtain ⟨hmem, ⟨hres, -, hsizes⟩, hstatus, hkey, -, hstream⟩ := hs
  exact ⟨hmem, ⟨hres, hu.trans hle, hsizes⟩, hstatus, hkey, ⟨fun h => absurd rfl h, fun _ => hu⟩, fun _ => hstream hopen⟩

theorem closed : s.closed.Inv := by
  obtain ⟨hmem, ⟨hres, -, hsizes⟩, hstatus, hkey, -, -⟩ := hs
  exact ⟨hmem, ⟨hres, Nat.zero_le _, hsizes⟩, hstatus, hkey, ⟨fun _ => rfl, nofun⟩, streamOk_of_idle rfl⟩

/-! ## A unit processed (R295, R296) -/

theorem length_lastUnit : s.lastUnit.length ≤ s.chunkSize.toNat := by
  obtain ⟨-, -, -, -, ⟨-, hheld⟩, -⟩ := hs
  unfold State.lastUnit
  split
  · exact hheld (by assumption)
  all_goals exact Nat.zero_le _

theorem nonfinal {u : List Byte} {t : State} (hfree : s.ocount = 0) (hu : u.length ≤ 65536) (h : s.nonfinal u = .ok t) :
    t.Inv ∧ t.coState = s.coState ∧ t.chunkSize = s.chunkSize := by
  rcases State.nonfinal_cases h with ⟨a, c, r, -, hr, rfl⟩ | ⟨l, c, out, -, hout, rfl⟩ | ⟨w, out, -, hout, rfl⟩
  · obtain ⟨hmem, ⟨-, hsizes⟩, hrest⟩ := hs
    exact ⟨⟨hmem, ⟨hr, hsizes⟩, hrest⟩, rfl, rfl⟩
  · have hmoved : State.Inv { s with lfsr := l, scCnt := c } := hs
    exact ⟨hmoved.emit (.inl hfree) (hout.trans_le hu), by simp, by simp⟩
  · have hmoved : State.Inv { s with w := w } := hs
    exact ⟨hmoved.emit (.inl hfree) (hout.trans_le hu), by simp, by simp⟩

theorem acceptUnit {t : State} (hopen : s.coState ≠ .idle) (hfree : s.ocount = 0) (hlen : s.len.toNat ≤ s.chunkSize.toNat)
    (h : s.acceptUnit = .ok t) : t.Inv := by
  have hnew : (s.ibuf s.len.toNat).length ≤ s.chunkSize.toNat := by rwa [State.length_ibuf]
  rcases State.acceptUnit_cases h with ⟨-, rfl⟩ | ⟨t', -, hunit, rfl⟩
  · exact hs.holdUnit hopen hnew
  · have hheld : s.hold.length ≤ 65536 := by
      obtain ⟨-, ⟨-, hheld, -⟩, -⟩ := hs
      exact hheld
    obtain ⟨ht', hco, hcs⟩ := hs.nonfinal hfree hheld hunit
    exact ht'.holdUnit (hco ▸ hopen) (hcs ▸ hnew)

/-- A final unit that raises nothing leaves, once the stream is closed, the invariant. -/
theorem final {u : List Byte} {t : State} (hopen : s.coState ≠ .idle) (hfree : s.ocount = 0)
    (hu : u.length ≤ s.chunkSize.toNat) (h : s.final u = .ok t) : t.closed.Inv := by
  have hcs := hs.chunkSize_le hopen
  rcases State.final_cases h with ⟨a, c, r, out, -, hr, hout, rfl⟩ | ⟨l, c, out, -, hout, rfl⟩ | ⟨w, out, hmode, hout, rfl⟩ |
    ⟨w, w', out, out', -, hout, hout', rfl⟩
  · rw [closed_emit]
    obtain ⟨hmem, ⟨-, hsizes⟩, hrest⟩ := hs.closed
    have hmoved : (State.closed { s with dgH := a, dgCnt := c, dgRes := r, dgState := .done }).Inv := by
      obtain ⟨hstatus, hkey, hhold, -⟩ := hrest
      exact ⟨hmem, ⟨hr, hsizes⟩, hstatus, hkey, hhold, streamOk_of_idle rfl⟩
    exact hmoved.emit (.inl hfree) (by omega)
  · rw [closed_emit]
    have hmoved : (State.closed { s with lfsr := l, scCnt := c }).Inv := hs.closed
    exact hmoved.emit (.inl hfree) (by omega)
  · rw [closed_emit]
    have hblock : Mode.isBlock s.mode = true := by rcases hmode with ⟨hm, -⟩ | hm <;> rw [hm] <;> rfl
    have hmoved : (State.closed { s with w := w }).Inv := hs.closed
    exact hmoved.emit (.inl hfree) ((hout hu (hs.chunkSize_mod hopen hblock)).trans hcs)
  · rw [closed_emit]
    have hfirst : State.Inv (State.emit { s with w := w } out) :=
      emit (s := { s with w := w }) hs (.inl hfree) (by omega)
    have hslot : (State.emit { s with w := w } out).ocount = 1 :=
      congrArg State.ocount (State.emit_slot0 (s := { s with w := w }) out hfree)
    have hmoved : (State.closed { (State.emit { s with w := w } out) with w := w' }).Inv := hfirst.closed
    exact hmoved.emit (.inr hslot) (by omega)

theorem endStream {t : State} (hopen : s.coState ≠ .idle) (hfree : s.ocount = 0) (h : s.endStream = .ok t) : t.Inv := by
  obtain ⟨t', hunit, rfl⟩ := State.endStream_cases h
  exact hs.final hopen hfree hs.length_lastUnit hunit

/-! ## A command -/

/-- An effect whose checks passed keeps the invariant. What the checks rule out is what the effect's registers must not meet. -/
theorem effect {i : Instr} {t : State} (hpass : ∀ c ∈ checksOf s i, c.1 = false) (h : effectOf s i = .ok t) : t.Inv := by
  have hidle (hfirst : (s.streamOpen, .state) ∈ checksOf s i) : s.coState = .idle :=
    streamOpen_eq_false.mp (hpass _ hfirst)
  have ⟨hmem, ⟨hres, hsizes⟩, hstatus, hkey, hhold, hstream⟩ := hs
  cases i
  case nop | lfsrClock | lfsrOut | scStep | bcEnc | bcDec | cmEnc | cmDec =>
    cases h
    exact hs
  case reset =>
    cases h
    exact s.inv_doReset
  case outAck =>
    cases h
    obtain ⟨hheld, -, houts⟩ := hsizes
    exact ⟨hmem, ⟨hres, hheld, Nat.zero_le _, houts⟩, hstatus, hkey, hhold, hstream⟩
  case scLoad | scWarmup | cmSetiv =>
    cases h
    exact ⟨hmem, ⟨hres, hsizes⟩, hstatus, hkey, hhold, streamOk_of_idle (hidle List.mem_cons_self)⟩
  case bcSetkey =>
    cases h
    have hrounds : 32 ≤ s.rounds := by simpa [checksOf] using hpass (decide (s.rounds < 32), .invalidArg)
    exact ⟨hmem, ⟨hres, hsizes⟩, hstatus, fun _ => hrounds, hhold, streamOk_of_idle (hidle List.mem_cons_self)⟩
  case dgInit =>
    cases h
    exact ⟨hmem, ⟨Nat.zero_le _, hsizes⟩, hstatus, hkey, hhold, streamOk_of_idle (hidle List.mem_cons_self)⟩
  case dgAbsorb | dgFinal =>
    cases h
    exact ⟨hmem, ⟨State.length_dgRes_absorb _ _ _, hsizes⟩, hstatus, hkey, hhold,
      streamOk_of_idle (hidle List.mem_cons_self)⟩
  case coOpen m d p =>
    cases h
    simp only [checksOf, List.forall_mem_cons] at hpass
    obtain ⟨-, hready, hoptions, hchunk, -⟩ := hpass
    obtain ⟨-, hrest⟩ := hsizes
    have hengine : State.engineNotReady { s with mode := m, dir := d, pad := p, hold := [], coState := .opened } m = false := by
      cases m <;> exact hready
    exact ⟨hmem, ⟨hres, Nat.zero_le _, hrest⟩, hstatus, hkey, ⟨fun _ => rfl, nofun⟩, fun _ => ⟨hengine, hoptions, hchunk⟩⟩
  case coUnit =>
    simp only [checksOf, State.unitChecks, List.forall_mem_cons, Bool.not_eq_false', bne_eq_false_iff_eq, decide_eq_false_iff_not,
      not_lt] at hpass
    obtain ⟨hopen, hfree, hlen, -⟩ := hpass
    exact hs.acceptUnit (streamOpen_eq_true.mp hopen) hfree hlen h
  case coEnd =>
    simp only [checksOf, List.forall_mem_cons, Bool.not_eq_false', bne_eq_false_iff_eq] at hpass
    obtain ⟨hopen, hfree, -⟩ := hpass
    exact hs.endStream (streamOpen_eq_true.mp hopen) hfree h

/-- R319: E_LANE is in no command's list of causes, so no raise records it. -/
theorem exec {i : Instr} {t : State} (hi : i.WellFormed) (h : exec i s = .next t) : t.Inv := by
  have hlane {e : ErrCause} (he : e ∈ errorCauses i) : e ≠ .lane := by
    rintro rfl
    cases i <;> simp [errorCauses] at he
  rcases exec_cases h with ⟨e, hcheck | heff, rfl⟩ | ⟨hpass, heff⟩
  · exact hs.raise _ (hlane (cause_of_check hi hcheck))
  · exact hs.raise _ (hlane (cause_of_effect heff))
  · exact hs.effect hpass heff

/-! ## A host interaction -/

theorem issue {c : Word} {t : State} (h : issue c s = .next t) : t.Inv := by
  rcases issue_cases c s with ⟨-, -, hgate⟩ | ⟨-, -, hraise⟩ | ⟨-, i, hi, hrun⟩
  · cases hgate.symm.trans h
    exact hs
  · cases hraise.symm.trans h
    exact hs.raise _ nofun
  · obtain ⟨hwf, -⟩ := decodeThenEncode c i hi
    exact hs.exec hwf (hrun.symm.trans h)

/-- R72: a stored CSR is none of the invariant's, or is locked while a stream is open and clears BC_READY. -/
theorem storeCsr {c : Csr} (v : Word) (hl : ¬ (c.locked = true ∧ s.coState ≠ .idle)) : (s.storeCsr c v).Inv := by
  have hidle (hlocked : c.locked = true) : s.coState = .idle := by_contra fun h => hl ⟨hlocked, h⟩
  have ⟨hmem, hsizes, hstatus, hkey, hhold, hstream⟩ := hs
  cases c
  case bcKey0 | bcKey1 | bcKey2 | bcKey3 | bcRounds =>
    exact ⟨hmem, hsizes, hstatus, nofun, hhold, streamOk_of_idle (hidle rfl)⟩
  case chunkSize =>
    obtain ⟨hempty, -⟩ := hhold
    have hnotHolding : s.coState ≠ .holding := by rw [hidle rfl]; decide
    exact ⟨hmem, hsizes, hstatus, hkey, ⟨hempty, fun h => absurd h hnotHolding⟩, streamOk_of_idle (hidle rfl)⟩
  all_goals exact hs

theorem writeCsr (c : Csr) (v : Word) : (s.writeCsr c v).Inv := by
  unfold State.writeCsr
  split_ifs with hro hl
  · exact hs
  · exact hs
  · exact hs.storeCsr v hl

theorem writeIbuf {a : BitVec 18} (wd : Width) (v : Word) (ha : regionOf a = .ibuf) :
    (s.writeBytes a.toNat (leBytes wd.bytes v)).Inv := by
  obtain ⟨hmem, hrest⟩ := hs
  have hrange : 0x10000 ≤ a.toNat ∧ a.toNat < 0x20000 := by
    unfold regionOf ibufBase obuf0Base at ha
    split_ifs at ha
    omega
  have hbytes := wd.bytes_le
  exact ⟨hmem.writeBytes hrange.1 (by rw [length_leBytes]; omega), hrest⟩

theorem busWrite {wd : Width} {a : BitVec 18} {v : Word} {t : State} (h : busWrite wd a v s = .next t) : t.Inv := by
  rcases busWrite_cases wd a v s with hissue | ⟨c, hcsr⟩ | ⟨ha, hbytes⟩ | hignored
  · exact hs.issue (hissue.symm.trans h)
  · cases hcsr.symm.trans h
    exact hs.writeCsr c v
  · cases hbytes.symm.trans h
    exact hs.writeIbuf wd v ha
  · cases hignored.symm.trans h
    exact hs

theorem step {t : State} (h : step s = .next t) : t.Inv := by
  rcases step_cases h with ⟨-, rfl⟩ | ⟨x, rest, -, ⟨-, rfl⟩ | ⟨wd, a, -, -, rfl⟩ | ⟨wd, a, v, -, -, hwrite⟩⟩
  · exact hs
  · exact State.inv_doReset _
  · exact hs
  · exact busWrite (s := { s with pending := rest }) hs hwrite

end State.Inv

/-- Settles O60: each kind of host interaction keeps the invariant, a command by its checks and its effect. -/
theorem invariantPreserved : Obligations.InvariantPreserved := by
  unfold Obligations.InvariantPreserved
  exact fun s t hs h => hs.step h

end Sys2Proof.Machine
end

section
/-! # Settling the statements about the engines' functions over a split or a round trip (41_stream_cipher.md R191, R192,
42_block_cipher.md R216, 43_chaining.md R247, 45_coordinator.md R297 to R302, R318)

The loops over bytes and blocks run on a concatenation as on its parts, one after the other; that gives every statement about a
split. A round trip is a round trip of one byte, of one pass of the Feistel loop or of one block, carried through the loop. -/

namespace Sys2Proof.Machine

/-! ## The keystream (R190 to R192) -/

theorem ksXor_append (l : Lfsrs) (d e : List Byte) :
    ksXor l (d ++ e) = ((ksXor (ksXor l d).1 e).1, (ksXor l d).2 ++ (ksXor (ksXor l d).1 e).2) := by
  induction d generalizing l with
  | nil => rfl
  | cons b d ih => simp only [List.cons_append, ksXor, ih]

/-- R192: the same keystream byte is XORed in twice. -/
theorem ksXor_ksXor (l : Lfsrs) (d : List Byte) : ksXor l (ksXor l d).2 = ((ksXor l d).1, d) := by
  induction d generalizing l with
  | nil => rfl
  | cons b d ih => simp only [ksXor, ih, BitVec.xor_assoc, BitVec.xor_self, BitVec.xor_zero]

/-- Settles O24, by induction on the data's first part, and on the data. -/
theorem keystreamContinuousAndSymmetric : Obligations.KeystreamContinuousAndSymmetric := by
  unfold Obligations.KeystreamContinuousAndSymmetric
  exact fun l d e => ⟨ksXor_append l d e, ksXor_ksXor l d⟩

/-! ## The Feistel loops (R210, R212, R216) -/

/-- The loop body of R210 from a given sum. -/
def encryptRound (key : KeyWords) (sum : Word) (x : Block) : Block :=
  let v0 := x.v0 + feistelMix x.v1 sum (keyLow key sum)
  ⟨v0, x.v1 + feistelMix v0 (sum + delta) (keyHigh key (sum + delta))⟩

/-- The loop body of R212 that ends at a given sum. -/
def decryptRound (key : KeyWords) (sum : Word) (x : Block) : Block :=
  let v1 := x.v1 - feistelMix x.v0 (sum + delta) (keyHigh key (sum + delta))
  ⟨x.v0 - feistelMix v1 sum (keyLow key sum), v1⟩

@[simp] theorem decryptRound_encryptRound (key : KeyWords) (sum : Word) (x : Block) :
    decryptRound key sum (encryptRound key sum x) = x := by
  simp only [decryptRound, encryptRound, BitVec.add_sub_cancel]

@[simp] theorem encryptRound_decryptRound (key : KeyWords) (sum : Word) (x : Block) :
    encryptRound key sum (decryptRound key sum x) = x := by
  simp only [decryptRound, encryptRound, BitVec.sub_add_cancel]

theorem encryptRounds_succ (key : KeyWords) (n : Nat) (sum : Word) (x : Block) :
    encryptRounds key (n + 1) sum x = encryptRounds key n (sum + delta) (encryptRound key sum x) := rfl

theorem decryptRounds_succ (key : KeyWords) (n : Nat) (sum : Word) (x : Block) :
    decryptRounds key (n + 1) (sum + delta) x = decryptRounds key n sum (decryptRound key sum x) := by
  simp only [decryptRounds, decryptRound, BitVec.add_sub_cancel]

/-- The sum after n passes from a given one (R210). -/
def sumAfter (n : Nat) (sum : Word) : Word := sum + delta * BitVec.ofNat 32 n

theorem sumAfter_zero (sum : Word) : sumAfter 0 sum = sum := by simp [sumAfter]

theorem sumAfter_succ (n : Nat) (sum : Word) : sumAfter (n + 1) sum = sumAfter n sum + delta := by
  simp [sumAfter, BitVec.ofNat_add, BitVec.mul_add, BitVec.add_assoc]

theorem sumAfter_add_delta (n : Nat) (sum : Word) : sumAfter n (sum + delta) = sumAfter n sum + delta := by
  simp only [sumAfter, BitVec.add_assoc, BitVec.add_comm delta]

theorem encryptRounds_succ_last (key : KeyWords) (n : Nat) (sum : Word) (x : Block) :
    encryptRounds key (n + 1) sum x = encryptRound key (sumAfter n sum) (encryptRounds key n sum x) := by
  induction n generalizing sum x with
  | zero => rw [sumAfter_zero]; rfl
  | succ n ih => rw [encryptRounds_succ, ih, sumAfter_add_delta, sumAfter_succ, encryptRounds_succ]

theorem decryptRounds_succ_last (key : KeyWords) (n : Nat) (sum : Word) (x : Block) :
    decryptRounds key (n + 1) (sumAfter (n + 1) sum) x =
      decryptRound key sum (decryptRounds key n (sumAfter n (sum + delta)) x) := by
  induction n generalizing x with
  | zero => rw [sumAfter_succ, sumAfter_zero, decryptRounds_succ]; rfl
  | succ n ih =>
    rw [sumAfter_succ, decryptRounds_succ, ih, sumAfter_add_delta, sumAfter_add_delta, sumAfter_succ, decryptRounds_succ]

/-- R216: decryption starts at the sum encryption ends at, and undoes its passes last to first. -/
theorem decryptRounds_encryptRounds (key : KeyWords) (n : Nat) (sum : Word) (x : Block) :
    decryptRounds key n (sumAfter n sum) (encryptRounds key n sum x) = x := by
  induction n generalizing sum x with
  | zero => rfl
  | succ n ih => rw [decryptRounds_succ_last, encryptRounds_succ, ih, decryptRound_encryptRound]

theorem encryptRounds_decryptRounds (key : KeyWords) (n : Nat) (sum : Word) (x : Block) :
    encryptRounds key n sum (decryptRounds key n (sumAfter n sum) x) = x := by
  induction n generalizing x with
  | zero => rfl
  | succ n ih => rw [encryptRounds_succ_last, sumAfter_succ, decryptRounds_succ, ih, encryptRound_decryptRound]

theorem decryptBlock_eq (key : KeyWords) (nr : Nat) (x : Block) :
    decryptBlock key nr x = decryptRounds key nr (sumAfter nr 0) x := by
  simp [decryptBlock, sumAfter]

@[simp] theorem decryptBlock_encryptBlock (key : KeyWords) (nr : Nat) (x : Block) :
    decryptBlock key nr (encryptBlock key nr x) = x :=
  (decryptBlock_eq key nr _).trans (decryptRounds_encryptRounds key nr 0 x)

@[simp] theorem encryptBlock_decryptBlock (key : KeyWords) (nr : Nat) (x : Block) :
    encryptBlock key nr (decryptBlock key nr x) = x :=
  (congrArg (encryptBlock key nr) (decryptBlock_eq key nr x)).trans (encryptRounds_decryptRounds key nr 0 x)

/-- Settles O28, by induction on the round count: a pass is undone by its counterpart at the same sum. -/
theorem blockCipherInverse : Obligations.BlockCipherInverse := by
  unfold Obligations.BlockCipherInverse
  exact fun key nr x => ⟨decryptBlock_encryptBlock key nr x, encryptBlock_decryptBlock key nr x⟩

/-! ## Blocks as bytes (R217) -/

theorem be32Bytes_be32 (b : List Byte) : be32Bytes (be32 b) = [byteAt b 0, byteAt b 1, byteAt b 2, byteAt b 3] := by
  have hbyte (k : Nat) : ((be32 b).extractLsb' (8 * k) 8).toNat = (be32 b).toNat / 2 ^ (8 * k) % 256 := by
    simp [Nat.shiftRight_eq_div_pow]
  have h0 := (byteAt b 0).isLt
  have h1 := (byteAt b 1).isLt
  have h2 := (byteAt b 2).isLt
  have h3 := (byteAt b 3).isLt
  have hnum := toNat_be32 b
  simp only [be32Bytes, List.cons.injEq, and_true]
  refine ⟨?_, ?_, ?_, ?_⟩ <;> apply BitVec.eq_of_toNat_eq
  · exact (hbyte 3).trans (by omega)
  · exact (hbyte 2).trans (by omega)
  · exact (hbyte 1).trans (by omega)
  · exact (hbyte 0).trans (by omega)

theorem bytes_blockOfBytes {b : List Byte} (h : b.length = 8) : (blockOfBytes b).bytes = b := by
  match b, h with
  | [_, _, _, _, _, _, _, _], _ => simp only [Block.bytes, blockOfBytes, be32Bytes_be32]; rfl

/-! ## ECB over a concatenation (R218, R301, R318) -/

theorem mapBlocks_append (f : Block → Block) {m : Nat} (n : Nat) {a : List Byte} (b : List Byte) (h : a.length = 8 * m) :
    mapBlocks f (m + n) (a ++ b) = mapBlocks f m a ++ mapBlocks f n b := by
  induction m generalizing a with
  | zero =>
    rw [List.eq_nil_of_length_eq_zero h, Nat.zero_add]
    rfl
  | succ m ih =>
    rw [Nat.succ_add, mapBlocks, mapBlocks, List.take_append_of_le_length (by omega), List.drop_append_of_le_length (by omega),
      ih (by rw [List.length_drop]; omega), List.append_assoc]

theorem length_append_div {a : List Byte} (b : List Byte) (h : a.length % 8 = 0) :
    (a ++ b).length / 8 = a.length / 8 + b.length / 8 := by
  rw [List.length_append]
  omega

theorem ecbEnc_append (key : KeyWords) (nr : Nat) {a : List Byte} (b : List Byte) (h : a.length % 8 = 0) :
    ecbEnc key nr (a ++ b) = ecbEnc key nr a ++ ecbEnc key nr b := by
  rw [ecbEnc, length_append_div b h, mapBlocks_append _ _ b (by omega), ecbEnc, ecbEnc]

/-- The sequential result, as the list of its blocks. -/
theorem mapBlocks_eq_flatten (f : Block → Block) (n : Nat) (d : List Byte) : mapBlocks f n d =
    ((List.range n).map fun j => (f (blockOfBytes ((d.drop (8 * j)).take 8))).bytes).flatten := by
  induction n generalizing d with
  | zero => rfl
  | succ n ih =>
    have hdrop (j : Nat) : (d.drop 8).drop (8 * j) = d.drop (8 * (j + 1)) := by
      rw [List.drop_drop, Nat.mul_succ, Nat.add_comm]
    simp only [mapBlocks, ih, hdrop, List.range_succ_eq_map, List.map_cons, List.map_map, List.flatten_cons]
    rfl

/-- R318: after the lanes have written the blocks of `order`, each slot named there holds its own block. -/
theorem getElem?_foldl_set {α : Type} (g : Nat → α) (order : List Nat) (slots : List α) (k : Nat) :
    (order.foldl (fun t j => t.set j (g j)) slots)[k]? =
      if k ∈ order ∧ k < slots.length then some (g k) else slots[k]? := by
  induction order generalizing slots with
  | nil => simp
  | cons j order ih =>
    rw [List.foldl_cons, ih, List.length_set]
    by_cases hk : k < slots.length
    · by_cases hjk : j = k
      · subst hjk
        simp [hk]
      · rw [List.getElem?_set_ne hjk]
        simp [Ne.symm hjk]
    · simp [hk]

theorem mapBlocksInOrder_eq {f : Block → Block} {d : List Byte} {order : List Nat} (h : ∀ j, j < d.length / 8 → j ∈ order) :
    mapBlocksInOrder f d order =
      (List.range (d.length / 8)).map fun j => (f (blockOfBytes ((d.drop (8 * j)).take 8))).bytes := by
  apply List.ext_getElem?
  intro k
  rw [mapBlocksInOrder, getElem?_foldl_set]
  by_cases hk : k < d.length / 8
  · simp [hk, h k hk]
  · simp [hk]

/-- Settles O30: whatever the order, every slot ends up with its own block, and the slots in turn are the sequential result. -/
theorem laneOrderIsUnobservable : Obligations.LaneOrderIsUnobservable := by
  unfold Obligations.LaneOrderIsUnobservable
  intro f d order h
  rw [mapBlocksInOrder_eq h, mapBlocks_eq_flatten]

/-! ## PCBC over a concatenation, and its round trip (R240, R241, R246, R247) -/

theorem chainBlocks_append (f : Block → Block → Block × Block) {m : Nat} (n : Nat) (w : Block) {a : List Byte} (b : List Byte)
    (h : a.length = 8 * m) :
    chainBlocks f (m + n) w (a ++ b) = ((chainBlocks f n (chainBlocks f m w a).1 b).1,
      (chainBlocks f m w a).2 ++ (chainBlocks f n (chainBlocks f m w a).1 b).2) := by
  induction m generalizing w a with
  | zero =>
    rw [List.eq_nil_of_length_eq_zero h, Nat.zero_add]
    rfl
  | succ m ih =>
    rw [Nat.succ_add]
    simp only [chainBlocks]
    rw [List.take_append_of_le_length (by omega), List.drop_append_of_le_length (by omega),
      ih _ (by rw [List.length_drop]; omega), List.append_assoc]

theorem pcbcEnc_append (key : KeyWords) (nr : Nat) (w : Block) {a : List Byte} (b : List Byte) (h : a.length % 8 = 0) :
    pcbcEnc key nr w (a ++ b) = ((pcbcEnc key nr (pcbcEnc key nr w a).1 b).1,
      (pcbcEnc key nr w a).2 ++ (pcbcEnc key nr (pcbcEnc key nr w a).1 b).2) := by
  rw [pcbcEnc, length_append_div b h, chainBlocks_append _ _ w b (by omega)]
  rfl

theorem Block.xor_comm (x y : Block) : x.xor y = y.xor x := by
  simp only [Block.xor, BitVec.xor_comm]

theorem Block.xor_xor_cancel_left (x y : Block) : (x.xor y).xor x = y := by
  rw [Block.xor_comm x y]
  simp only [Block.xor, BitVec.xor_assoc, BitVec.xor_self, BitVec.xor_zero]

/-- R247, one block: D undoes E, the working block cancels, and both sides XOR the plaintext and the ciphertext into W. -/
theorem pcbcDecBlock_pcbcEncBlock (key : KeyWords) (nr : Nat) (w p : Block) :
    pcbcDecBlock key nr w (pcbcEncBlock key nr w p).2 = ((pcbcEncBlock key nr w p).1, p) := by
  simp only [pcbcDecBlock, pcbcEncBlock, decryptBlock_encryptBlock, Block.xor_xor_cancel_left]
  rw [Block.xor_comm]

theorem chainBlocks_pcbcDec_pcbcEnc (key : KeyWords) (nr : Nat) {n : Nat} (w : Block) {p : List Byte} (h : p.length = 8 * n) :
    chainBlocks (pcbcDecBlock key nr) n w (chainBlocks (pcbcEncBlock key nr) n w p).2 =
      ((chainBlocks (pcbcEncBlock key nr) n w p).1, p) := by
  induction n generalizing w p with
  | zero => rw [List.eq_nil_of_length_eq_zero h]; rfl
  | succ n ih =>
    have htake : (p.take 8).length = 8 := List.length_take_of_le (by omega)
    simp only [chainBlocks]
    rw [List.take_left' (Block.length_bytes _), List.drop_left' (Block.length_bytes _), blockOfBytes_bytes,
      pcbcDecBlock_pcbcEncBlock, ih _ (by rw [List.length_drop]; omega), bytes_blockOfBytes htake, List.take_append_drop]

theorem pcbcDec_pcbcEnc (key : KeyWords) (nr : Nat) (w : Block) {p : List Byte} (h : p.length % 8 = 0) :
    pcbcDec key nr w (pcbcEnc key nr w p).2 = ((pcbcEnc key nr w p).1, p) := by
  have hlen : (pcbcEnc key nr w p).2.length = p.length := by rw [pcbcEnc, length_chainBlocks]; omega
  rw [pcbcDec, hlen]
  exact chainBlocks_pcbcDec_pcbcEnc key nr w (by omega)

/-- Settles O33, by induction on the blocks. -/
theorem pcbcRoundTrip : Obligations.PcbcRoundTrip := by
  unfold Obligations.PcbcRoundTrip
  exact fun key nr w p => pcbcDec_pcbcEnc key nr w

theorem mapBlocks_mapBlocks {f g : Block → Block} (hfg : ∀ x, g (f x) = x) {n : Nat} {p : List Byte} (h : p.length = 8 * n) :
    mapBlocks g n (mapBlocks f n p) = p := by
  induction n generalizing p with
  | zero => rw [List.eq_nil_of_length_eq_zero h]; rfl
  | succ n ih =>
    have htake : (p.take 8).length = 8 := List.length_take_of_le (by omega)
    rw [mapBlocks, mapBlocks, List.take_left' (Block.length_bytes _), List.drop_left' (Block.length_bytes _),
      blockOfBytes_bytes, hfg, ih (by rw [List.length_drop]; omega), bytes_blockOfBytes htake, List.take_append_drop]

/-- R216 over a sequence: ecb_dec undoes ecb_enc. -/
theorem ecbDec_ecbEnc (key : KeyWords) (nr : Nat) {p : List Byte} (h : p.length % 8 = 0) :
    ecbDec key nr (ecbEnc key nr p) = p := by
  have hlen : (ecbEnc key nr p).length = p.length := length_mapBlocks_aligned _ h
  rw [ecbDec, hlen]
  exact mapBlocks_mapBlocks (decryptBlock_encryptBlock key nr) (by omega)

/-! ## Padding (R297, R302) and segmentation (R301) -/

/-- An aligned head takes no part in the padding of a tail (R297). -/
theorem addPadding_append {a : List Byte} (b : List Byte) (h : a.length % 8 = 0) : addPadding (a ++ b) = a ++ addPadding b := by
  have hmod : (a ++ b).length % 8 = b.length % 8 := by rw [List.length_append]; omega
  rw [addPadding, hmod, List.append_assoc, addPadding]

/-- R302: the last byte of a padded sequence counts the bytes to take away. -/
theorem removePadding_append_replicate (b : List Byte) {p : Nat} (h1 : 1 ≤ p) (h8 : p ≤ 8) :
    removePadding (b ++ List.replicate p (BitVec.ofNat 8 p)) = .ok b := by
  obtain ⟨q, rfl⟩ : ∃ q, p = q + 1 := ⟨p - 1, by omega⟩
  have hvalue : (BitVec.ofNat 8 (q + 1)).toNat = q + 1 := Nat.mod_eq_of_lt (by omega)
  rw [List.replicate_succ', ← List.append_assoc, removePadding_concat, hvalue, if_neg (by omega)]
  exact congrArg _ (List.take_left' (by rw [List.length_append, List.length_replicate]; omega))

@[simp] theorem removePadding_addPadding (b : List Byte) : removePadding (addPadding b) = .ok b :=
  removePadding_append_replicate b (by omega) (by omega)

/-- Settles O40: the pad length is 8 minus the length's remainder, between 1 and 8. -/
theorem paddingRoundTrip : Obligations.PaddingRoundTrip := by
  unfold Obligations.PaddingRoundTrip
  exact fun b => ⟨removePadding_addPadding b, 8 - b.length % 8, by omega, by omega, by omega, rfl⟩

theorem length_flatten_mod {units : List (List Byte)} (h : ∀ u ∈ units, u.length % 8 = 0) : units.flatten.length % 8 = 0 := by
  rw [List.length_flatten]
  refine Nat.mod_eq_zero_of_dvd (List.dvd_sum fun n hn => ?_)
  obtain ⟨u, hu, rfl⟩ := List.mem_map.mp hn
  exact Nat.dvd_of_mod_eq_zero (h u hu)

theorem flatten_map_ecbEnc (key : KeyWords) (nr : Nat) {units : List (List Byte)} (h : ∀ u ∈ units, u.length % 8 = 0) :
    (units.map (ecbEnc key nr)).flatten = ecbEnc key nr units.flatten := by
  induction units with
  | nil => rfl
  | cons u units ih =>
    obtain ⟨hu, hunits⟩ := List.forall_mem_cons.mp h
    rw [List.map_cons, List.flatten_cons, List.flatten_cons, ih hunits, ecbEnc_append key nr _ hu]

/-- PCBC encryption of units in turn, W carried along, after bytes that are out already. -/
theorem foldl_pcbcEnc (key : KeyWords) (nr : Nat) (w : Block) (out : List Byte) {units : List (List Byte)}
    (h : ∀ u ∈ units, u.length % 8 = 0) :
    units.foldl (fun x u => ((pcbcEnc key nr x.1 u).1, x.2 ++ (pcbcEnc key nr x.1 u).2)) (w, out) =
      ((pcbcEnc key nr w units.flatten).1, out ++ (pcbcEnc key nr w units.flatten).2) := by
  induction units generalizing w out with
  | nil => exact congrArg (Prod.mk w) (List.append_nil out).symm
  | cons u units ih =>
    obtain ⟨hu, hunits⟩ := List.forall_mem_cons.mp h
    rw [List.foldl_cons, ih _ _ hunits, List.flatten_cons, pcbcEnc_append key nr w _ hu, List.append_assoc]

/-- Settles O34: the units in turn are their concatenation, which is aligned, so the padding is that of the last unit. -/
theorem blockSegmentation : Obligations.BlockSegmentation := by
  unfold Obligations.BlockSegmentation
  intro key nr w units last h
  have hmod := length_flatten_mod h
  rw [addPadding_append last hmod, flatten_map_ecbEnc key nr h, ecbEnc_append key nr _ hmod]
  refine ⟨rfl, ?_⟩
  rintro r rfl
  rw [foldl_pcbcEnc key nr w [] h, pcbcEnc_append key nr w _ hmod, List.nil_append]

end Sys2Proof.Machine
end

section
/-! # Settling the statements about a split of the digest's data and of the final unit (44_digest.md R271, 45_coordinator.md R299)

The buffer of an absorb of a concatenation is whole blocks followed by the buffer of the second part's absorb after the first's,
and the padding of a buffer does not see its whole blocks. So two absorbs in turn are one. -/

namespace Sys2Proof.Machine

/-! ## Absorbing in two parts (R262) -/

/-- Whole blocks in front of a buffer are compressed first. -/
theorem compressBlocks_append_whole {m : Nat} (h : Acc) {pre : List Byte} (buf : List Byte) (hpre : pre.length = 64 * m) :
    compressBlocks ((pre ++ buf).length / 64) h (pre ++ buf) = compressBlocks (buf.length / 64) (compressBlocks m h pre) buf := by
  have hcount : (pre ++ buf).length / 64 = m + buf.length / 64 := by rw [List.length_append]; omega
  rw [hcount, compressBlocks_add, compressBlocks_append m h pre buf hpre.ge, List.drop_left' hpre]

theorem drop_append_whole {m : Nat} {pre : List Byte} (buf : List Byte) (hpre : pre.length = 64 * m) :
    (pre ++ buf).drop (64 * ((pre ++ buf).length / 64)) = buf.drop (64 * (buf.length / 64)) := by
  have hcount : 64 * ((pre ++ buf).length / 64) = pre.length + 64 * (buf.length / 64) := by rw [List.length_append]; omega
  rw [hcount, List.drop_length_add_append]

theorem digestPad_append_whole {m : Nat} {pre : List Byte} (buf : List Byte) (cnt : BitVec 64) (hpre : pre.length = 64 * m) :
    digestPad (pre ++ buf) cnt = pre ++ digestPad buf cnt := by
  have hfill : zeroFill ((pre ++ buf).length + 1) = zeroFill (buf.length + 1) := by
    unfold zeroFill
    rw [List.length_append]
    omega
  simp only [digestPad, hfill, List.append_assoc]

/-- The whole blocks of a non-final absorb, which it does not keep. -/
def wholeBlocks (buf : List Byte) : List Byte := buf.take (64 * (buf.length / 64))

theorem length_wholeBlocks (buf : List Byte) : (wholeBlocks buf).length = 64 * (buf.length / 64) :=
  List.length_take_of_le (Nat.mul_div_le ..)

theorem wholeBlocks_append_dgRes (s : State) (d : List Byte) :
    wholeBlocks (s.dgRes ++ d) ++ (s.absorb d false).dgRes = s.dgRes ++ d := List.take_append_drop _ _

/-- H after a non-final absorb: its whole blocks compressed. -/
theorem State.absorb_nonfinal_dgH (s : State) (d : List Byte) :
    (s.absorb d false).dgH = compressBlocks ((s.dgRes ++ d).length / 64) s.dgH (wholeBlocks (s.dgRes ++ d)) := by
  have hsplit := compressBlocks_append ((s.dgRes ++ d).length / 64) s.dgH (wholeBlocks (s.dgRes ++ d))
    (s.absorb d false).dgRes (length_wholeBlocks _).ge
  rw [wholeBlocks_append_dgRes] at hsplit
  exact hsplit

/-- The buffer of a concatenation: the first part's whole blocks, then the buffer of the second part after the first. -/
theorem absorbBuffer_append (s : State) (d e : List Byte) (final : Bool) :
    absorbBuffer s (d ++ e) final = wholeBlocks (s.dgRes ++ d) ++ absorbBuffer (s.absorb d false) e final := by
  have hdata : s.dgRes ++ (d ++ e) = wholeBlocks (s.dgRes ++ d) ++ ((s.absorb d false).dgRes ++ e) := by
    rw [← List.append_assoc, ← List.append_assoc, wholeBlocks_append_dgRes]
  cases final
  · exact hdata
  · have hcnt : s.dgCnt + BitVec.ofNat 64 (d ++ e).length = (s.absorb d false).dgCnt + BitVec.ofNat 64 e.length := by
      rw [List.length_append, BitVec.ofNat_add, ← BitVec.add_assoc]
      rfl
    simp only [absorbBuffer, if_true]
    rw [hdata, hcnt, digestPad_append_whole _ _ (length_wholeBlocks _)]

/-- Two absorbs in turn, the first non-final, are one absorb of the concatenation. -/
theorem State.absorb_absorb (s : State) (d e : List Byte) (final : Bool) :
    (s.absorb d false).absorb e final = s.absorb (d ++ e) final := by
  have hwhole := length_wholeBlocks (s.dgRes ++ d)
  have hbuf := absorbBuffer_append s d e final
  have hH : ((s.absorb d false).absorb e final).dgH = (s.absorb (d ++ e) final).dgH := by
    show compressBlocks _ _ _ = compressBlocks _ _ _
    rw [hbuf, compressBlocks_append_whole _ _ hwhole, State.absorb_nonfinal_dgH]
  have hRes : ((s.absorb d false).absorb e final).dgRes = (s.absorb (d ++ e) final).dgRes := by
    show List.drop _ _ = List.drop _ _
    rw [hbuf, drop_append_whole _ hwhole]
  have hCnt : ((s.absorb d false).absorb e final).dgCnt = (s.absorb (d ++ e) final).dgCnt := by
    show s.dgCnt + BitVec.ofNat 64 d.length + BitVec.ofNat 64 e.length = s.dgCnt + BitVec.ofNat 64 (d ++ e).length
    rw [List.length_append, BitVec.ofNat_add, BitVec.add_assoc]
  calc
    (s.absorb d false).absorb e final
      = { s with
          dgH := ((s.absorb d false).absorb e final).dgH, dgRes := ((s.absorb d false).absorb e final).dgRes,
          dgCnt := ((s.absorb d false).absorb e final).dgCnt, dgState := if final then .done else s.dgState } := rfl
    _ = s.absorb (d ++ e) final := by rw [hH, hRes, hCnt]; rfl

/-- Settles O38, by induction on the parts: the first two absorbs are one. -/
theorem digestSegmentation : Obligations.DigestSegmentation := by
  unfold Obligations.DigestSegmentation
  intro s parts last
  induction parts generalizing s with
  | nil => rfl
  | cons d parts ih => rw [List.foldl_cons, ih, State.absorb_absorb, List.flatten_cons, List.append_assoc]

/-- Settles O39: each digest is a closed computation, of one padded block, that the kernel evaluates. -/
theorem digestVectors : Obligations.DigestVectors := by
  unfold Obligations.DigestVectors
  refine ⟨?empty, ?abc⟩
  all_goals decide +kernel

/-! ## The full final unit (R299) -/

theorem addPadding_nil : addPadding [] = [8, 8, 8, 8, 8, 8, 8, 8] := by decide

theorem addPadding_aligned {u : List Byte} (h : u.length % 8 = 0) : addPadding u = u ++ [8, 8, 8, 8, 8, 8, 8, 8] := by
  have hpad := addPadding_append [] h
  rwa [List.append_nil, addPadding_nil] at hpad

/-- R295: encrypting an aligned unit and then another, W carried along, is encrypting their concatenation. -/
theorem State.cipherUnit_enc_append {s : State} {u : List Byte} (v : List Byte) (hmode : s.mode = .ecb ∨ s.mode = .pcbc)
    (hdir : s.dir = .enc) (hu : u.length % 8 = 0) :
    s.cipherUnit (u ++ v) = (((s.cipherUnit u).1.cipherUnit v).1,
      (s.cipherUnit u).2 ++ ((s.cipherUnit u).1.cipherUnit v).2) := by
  rcases hmode with hm | hm
  · have henc (x : List Byte) : s.cipherUnit x = (s, ecbEnc s.bcKey s.bcRounds.toNat x) :=
      (State.cipherUnit_ecb x hm).trans (by rw [if_pos hdir])
    simp only [henc, ecbEnc_append _ _ v hu]
  · have henc (w : Block) (x : List Byte) : State.cipherUnit { s with w := w } x =
        ({ s with w := (pcbcEnc s.bcKey s.bcRounds.toNat w x).1 }, (pcbcEnc s.bcKey s.bcRounds.toNat w x).2) :=
      State.cipherUnit_pcbc (s := { s with w := w }) x hm (if_pos hdir).symm
    have hself (x : List Byte) := henc s.w x
    simp only [hself, henc, pcbcEnc_append _ _ _ v hu]

/-- Settles O42: the padding of an aligned unit is the padding-only unit after it; and the empty part adds nothing to a digest. -/
theorem fullFinalUnit : Obligations.FullFinalUnit := by
  unfold Obligations.FullFinalUnit
  refine ⟨fun s u hmode hdir hu => ?_, fun s u => ?_⟩
  · rw [addPadding_aligned hu, State.cipherUnit_enc_append _ hmode hdir hu]
  · rw [State.absorb_absorb, List.append_nil]

end Sys2Proof.Machine
end

section
/-! # Settling the statements about the reset and about a host access (70_reset_and_hazards.md R400, R420, 20_memory.md R93, R100)

A reset reads as State.reset does in every register. An access is refused by BUSY or by `accessOk`, which is told as arithmetic of
the width and the address; a read that is not refused leaves everything that a read sees. -/

namespace Sys2Proof.Machine

/-! ## The reset (R341, R400) -/

/-- R70's reset column is what each register reads in State.reset. -/
theorem resetColumn_eq_map : resetColumn = Csr.all.map fun c => (c.offset, State.reset.readCsr c) := by decide

/-- No register shows a field that a reset keeps (log 14). -/
theorem readCsr_doReset (s : State) (c : Csr) : s.doReset.readCsr c = State.reset.readCsr c := by cases c <;> rfl

theorem State.isReset_of_readCsr {t : State} (hcsr : ∀ c, t.readCsr c = State.reset.readCsr c) (hlfsr : t.lfsr = ⟨0, 0, 0, 0⟩)
    (hhold : t.hold = []) (hres : t.dgRes = []) (hmem : t.mem = []) : t.IsReset := by
  refine ⟨?column, hlfsr, hhold, hres, fun a => by rw [hmem]; rfl⟩
  case column =>
    rw [resetColumn_eq_map]
    intro p hp
    obtain ⟨c, -, rfl⟩ := List.mem_map.mp hp
    exact (busRead_addr t c).trans (hcsr c)

theorem State.isReset_doReset (s : State) : s.doReset.IsReset :=
  State.isReset_of_readCsr (readCsr_doReset s) rfl rfl rfl rfl

theorem step_resetInput {s : State} {rest : List HostAction} (hp : s.pending = .resetInput :: rest) :
    step s = .next (State.doReset { s with pending := rest }) := by
  simp only [step, hostStep, hp, hostAccess]

/-- Settles O12: what RESET and the reset input leave reads as the reset column, and State.reset reads the same. -/
theorem resetState : Obligations.ResetState := by
  unfold Obligations.ResetState
  refine ⟨State.isReset_of_readCsr (fun _ => rfl) rfl rfl rfl rfl,
    fun s => ⟨?runs, s.doReset, exec_reset s, s.isReset_doReset⟩, fun s rest hp => ?input⟩
  case runs => exact (issue_reset s).trans (exec_reset s).symm
  case input => exact ⟨_, step_resetInput hp, State.isReset_doReset _⟩

/-- Settles O13: both resets are `doReset`, and an unlisted byte reads as its draw. -/
theorem resetKeepsTheHostSide : Obligations.ResetKeepsTheHostSide := by
  unfold Obligations.ResetKeepsTheHostSide
  refine ⟨exec_reset, fun s rest hp => step_resetInput hp, fun s a ha => ?_⟩
  rw [State.readByte, ha]

/-! ## A command issued by the host (R57, R130) -/

/-- A word that decodes runs its command unless the FAILED gate ignores it. -/
theorem issue_of_decode {c : Word} {i : Instr} {s : State} (hi : decode c = .ok i)
    (hgate : ¬ (s.failed = true ∧ passesGate c = false)) : issue c s = exec i s := by
  rw [issue, if_neg hgate, hi]

/-- Settles O5: the write reaches `issue`, whose gate is open in each of the four cases. -/
theorem stepRunsTheDecodedCommand : Obligations.StepRunsTheDecodedCommand := by
  unfold Obligations.StepRunsTheDecodedCommand
  intro s c i rest hp hb hi hgate
  have hopen : ¬ (s.failed = true ∧ passesGate c = false) := by
    rintro ⟨hfailed, hblocked⟩
    rcases hgate with hs | rfl | rfl | rfl
    · exact absurd (hs.symm.trans hfailed) nofun
    all_goals exact absurd hblocked (by decide)
  exact (step_writeCsr (c := .cmd) hb hp).trans (issue_of_decode hi hopen)

/-! ## Which accesses are refused (R93, R420) -/

theorem step_refused {s : State} {wd : Width} {a : BitVec 18} {v : Word} {h : HostAction} {rest : List HostAction} {r : Refusal}
    (hh : h = .read wd a ∨ h = .write wd a v) (hp : s.pending = h :: rest) (hr : s.accessRefusal wd a = some r) :
    step s = .refused r := by
  have href : State.accessRefusal { s with pending := rest } wd a = some r := hr
  rcases hh with rfl | rfl
  all_goals simp only [step, hostStep, hp, hostAccess, href]

/-- A bus write that is not refused answers a next state, whatever command it issues. -/
theorem busWrite_next (wd : Width) (a : BitVec 18) (v : Word) (s : State) : ∃ t, busWrite wd a v s = .next t := by
  have hissue : ∃ t, issue v s = .next t := by
    rcases issue_cases v s with ⟨-, -, hgate⟩ | ⟨-, -, hraise⟩ | ⟨-, i, -, hrun⟩
    · exact ⟨_, hgate⟩
    · exact ⟨_, hraise⟩
    · obtain ⟨t, ht⟩ := everyCommandAnswersNext i s
      exact ⟨t, hrun.trans ht⟩
  rcases busWrite_cases wd a v s with h | ⟨c, h⟩ | ⟨-, h⟩ | h
  · rwa [h]
  all_goals exact ⟨_, h⟩

/-- R93 as arithmetic: what is a bus error in each range of the address map (log 8 for the unmapped range). -/
theorem accessOk_eq_true_iff {wd : Width} {a : BitVec 18} : accessOk wd a = true ↔
    (a.toNat < 0x1000 ∧ wd = .w32 ∧ a.toNat % 4 = 0) ∨
    (0x10000 ≤ a.toNat ∧ a.toNat % wd.bytes = 0) ∨
    (0x1000 ≤ a.toNat ∧ a.toNat + wd.bytes ≤ 0x10000) := by
  have hpos := wd.bytes_pos
  by_cases hcsr : a.toNat < 0x1000
  · rw [accessOk_csr wd hcsr, Bool.and_eq_true, beq_iff_eq, beq_iff_eq]
    exact ⟨fun h => .inl ⟨hcsr, h⟩, fun h => (h.resolve_right (by omega)).2⟩
  · by_cases hbuf : 0x10000 ≤ a.toNat
    · rw [accessOk_buffer wd hbuf, beq_iff_eq]
      omega
    · rw [accessOk_unmapped wd (by omega) (by omega), decide_eq_true_iff]
      omega

theorem mod_bytes_eq_zero_iff {wd : Width} {n : Nat} : n % wd.bytes = 0 ↔
    wd = .w8 ∨ (wd = .w16 ∧ n % 2 = 0) ∨ (wd = .w32 ∧ n % 4 = 0) := by
  cases wd <;> simp [Width.bytes, Nat.mod_one]

/-- Settles O11: the two refused cases are BUSY and not `accessOk`; the rest is a read or a bus write, which answers next. -/
theorem stepRefusesOnlyBusErrors : Obligations.StepRefusesOnlyBusErrors := by
  unfold Obligations.StepRefusesOnlyBusErrors
  intro s wd a v h rest hh hp
  refine ⟨fun hbusy => ?busy, fun hb hbad => ?busError, fun hb hgood => ?next⟩
  case busy => exact step_refused hh hp (if_pos hbusy)
  case busError =>
    have hbad' : accessOk wd a = false := by
      rw [← Bool.not_eq_true, accessOk_eq_true_iff, mod_bytes_eq_zero_iff]
      cases wd
      all_goals
        simp only [reduceCtorEq, true_and, false_and, false_or, or_false, not_false_eq_true, and_true, and_false,
          Width.bytes] at hbad ⊢
        omega
    exact step_refused hh hp (by simp [State.accessRefusal, hb, hbad'])
  case next =>
    have hok : accessOk wd a = true := by
      rw [accessOk_eq_true_iff, mod_bytes_eq_zero_iff]
      exact hgood
    rcases hh with rfl | rfl
    · exact ⟨_, step_read hb hok hp⟩
    · obtain ⟨t, ht⟩ := busWrite_next wd a v { s with pending := rest }
      exact ⟨t, (step_write hb hok hp).trans ht⟩

/-! ## Reads (R100) -/

theorem busy_of_accessRefusal_eq_none {s : State} {wd : Width} {a : BitVec 18} (h : s.accessRefusal wd a = none) :
    s.busy = false := by
  unfold State.accessRefusal at h
  split_ifs at h with hb
  simpa using hb

/-- Settles O56: a read moves only the queue and the record, which no read looks at. -/
theorem readsHaveNoSideEffect : Obligations.ReadsHaveNoSideEffect := by
  unfold Obligations.ReadsHaveNoSideEffect
  intro s t wd a rest hp ht
  have href : s.accessRefusal wd a = none := by
    cases hr : s.accessRefusal wd a with
    | none => rfl
    | some r => cases (step_refused (v := 0) (.inl rfl) hp hr).symm.trans ht
  have hb := busy_of_accessRefusal_eq_none href
  have hok := accessOk_of_accessRefusal_eq_none href
  cases (step_read hb hok hp).symm.trans ht
  have hagain := step_read (rest := rest)
    (s := { s with pending := .read wd a :: rest, observed := s.observed ++ [s.busRead wd a] }) hb hok rfl
  refine ⟨s.busRead wd a, rfl, hagain.trans ?_⟩
  exact congrArg (fun o => Host.Outcome.next { s with pending := rest, observed := o }) (List.append_assoc ..)

end Sys2Proof.Machine
end

section
/-! # Settling the statements about CO_UNIT's checks and CO_END (45_coordinator.md R292, R294, R296, R298 to R302)

CO_END is `final` of the last unit once its two checks pass, and closes the stream. `final` is told once per mode and direction,
with the block cipher's use on a unit as one function of the working block; each result is emitted to slot 0, and only the
padding-only unit after a full one goes to slot 1. -/

namespace Sys2Proof.Machine

/-! ## CO_UNIT's checks (R292) -/

theorem firstError_unitChecks_state {s : State} (h : s.coState = .idle ∨ s.ocount ≠ 0) :
    firstError s.unitChecks = some .state := by
  unfold State.unitChecks
  by_cases hidle : s.coState = .idle
  · rw [streamOpen_eq_false.mpr hidle]
    exact firstError_cons_true ..
  · rw [streamOpen_eq_true.mpr hidle, bne_iff_ne.mpr (h.resolve_left hidle)]
    rfl

/-- Once a stream is open and both slots are free, only LEN is left to check. -/
theorem firstError_unitChecks_len {s : State} (hopen : s.coState ≠ .idle) (hfree : s.ocount = 0) :
    firstError s.unitChecks = if s.chunkSize.toNat < s.len.toNat then some .invalidArg else none := by
  unfold State.unitChecks
  rw [streamOpen_eq_true.mpr hopen, bne_eq_false_iff_eq.mpr hfree]
  simp [firstError]

/-- Settles O44: the three checks in order, and with no unit held nothing to process. -/
theorem coUnitChecksAndFirstUnit : Obligations.CoUnitChecksAndFirstUnit := by
  unfold Obligations.CoUnitChecksAndFirstUnit
  refine fun s => ⟨fun hstate => ?state, fun hopen hfree hlong => ?len, fun hopened hfree hfits => ?first⟩
  case state => exact (exec_coUnit s).trans (runCommand_error (firstError_unitChecks_state hstate))
  case len =>
    exact (exec_coUnit s).trans (runCommand_error ((firstError_unitChecks_len hopen hfree).trans (if_pos hlong)))
  case first =>
    have hopen : s.coState ≠ .idle := by rw [hopened]; decide
    rw [exec_coUnit, State.acceptUnit, hopened]
    exact runCommand_ok ((firstError_unitChecks_len hopen hfree).trans (if_neg hfits.not_gt))

/-! ## CO_END (R294) -/

theorem exec_coEnd (s : State) :
    exec .coEnd s = runCommand 0x62 s [(!s.streamOpen, .state), (s.ocount != 0, .state)] s.endStream := rfl

/-- A stream is open with both output slots free and u is its last unit: CO_END's checks pass and it processes u. -/
structure State.StreamEnds (s : State) (u : List Byte) : Prop where
  isOpen : s.coState ≠ .idle
  slotsFree : s.ocount = 0
  last : s.lastUnit = u

/-- R294, R300: the last unit is the held one, or the empty one when none was delivered. -/
theorem State.streamEnds_of_last {s : State} {u : List Byte}
    (h : (s.coState = .holding ∧ u = s.hold) ∨ (s.coState = .opened ∧ u = [])) (hfree : s.ocount = 0) : s.StreamEnds u := by
  rcases h with ⟨hco, rfl⟩ | ⟨hco, rfl⟩
  all_goals exact ⟨by rw [hco]; decide, hfree, by rw [State.lastUnit, hco]⟩

namespace State.StreamEnds

variable {s : State} {u : List Byte} (h : s.StreamEnds u)
include h

theorem firstError_checks : firstError [(!s.streamOpen, .state), (s.ocount != 0, .state)] = none := by
  simp [firstError_eq_none, State.streamOpen, h.isOpen, h.slotsFree]

theorem exec_of_error {e : ErrCause} (he : s.final u = .error e) : exec .coEnd s = .next (s.raise e 0x62) := by
  rw [exec_coEnd, State.endStream, h.last, he]
  exact runCommand_effect_error h.firstError_checks

theorem exec_of_ok {t : State} (ht : s.final u = .ok t) : exec .coEnd s = .next t.closed := by
  rw [exec_coEnd, State.endStream, h.last, ht]
  exact runCommand_ok h.firstError_checks

/-- A single result goes to slot 0 (R293). -/
theorem exec_of_emit {t : State} {out : List Byte} {n : Nat} (ht : s.final u = .ok (t.emit out)) (hocount : t.ocount = s.ocount)
    (hn : out.length = n) :
    exec .coEnd s = .next { t with
      mem := Memory.storeBytes t.mem 0x20000 out, outLen0 := BitVec.ofNat 17 n, ocount := 1, hold := [], coState := .idle } := by
  rw [h.exec_of_ok ht, State.emit_slot0 out (hocount.trans h.slotsFree), hn]
  rfl

end State.StreamEnds

/-! ## A final unit (R296, R299) -/

theorem State.final_stream {s : State} (u : List Byte) (h : s.mode = .stream) :
    s.final u = .ok ((s.ksXor u).1.emit (s.ksXor u).2) := by
  unfold State.final
  rw [h]

theorem State.final_digest {s : State} (u : List Byte) (h : s.mode = .digest) : s.final u = .ok (s.finalDigest u) := by
  unfold State.final
  rw [h]

theorem State.final_enc {s : State} (u : List Byte) (hmode : s.mode = .ecb ∨ s.mode = .pcbc) (hdir : s.dir = .enc) :
    s.final u = s.finalEnc u := by
  unfold State.final
  rcases hmode with hm | hm <;> rw [hm, hdir]

theorem State.final_dec {s : State} (u : List Byte) (hmode : s.mode = .ecb ∨ s.mode = .pcbc) (hdir : s.dir = .dec) :
    s.final u = s.finalDec u := by
  unfold State.final
  rcases hmode with hm | hm <;> rw [hm, hdir]

theorem misaligned_eq_false {u : List Byte} : misaligned u = false ↔ u.length % 8 = 0 := by simp [misaligned]

theorem misaligned_eq_true {u : List Byte} : misaligned u = true ↔ u.length % 8 ≠ 0 := by simp [misaligned]

/-- Settles O46: the checks in order; in STREAM and DIGEST `final` has one result, emitted to slot 0. -/
theorem coEndChecksStreamAndDigest : Obligations.CoEndChecksStreamAndDigest := by
  unfold Obligations.CoEndChecksStreamAndDigest
  refine fun s u => ⟨fun hstate => ?state, fun hlast hfree => ?last⟩
  case state =>
    have hcheck : (!s.streamOpen || s.ocount != 0) = true := by
      rcases hstate with hidle | hocount
      · rw [streamOpen_eq_false.mpr hidle]
        rfl
      · rw [bne_iff_ne.mpr hocount, Bool.or_true]
    exact (exec_coEnd s).trans (runCommand_error ((firstError_same_cause _ _ _).trans (if_pos hcheck)))
  case last =>
    have h := State.streamEnds_of_last hlast hfree
    refine ⟨fun hm => ?stream, fun hm t ht => ?digest⟩
    case stream => exact h.exec_of_emit (State.final_stream u hm) rfl (length_ksXor ..)
    case digest =>
      have hmem : t.mem = s.mem := by rw [ht]; split <;> rfl
      have hocount : t.ocount = s.ocount := by rw [ht]; split <;> rfl
      have hfinal : s.final u = .ok (t.emit t.dgH.bytes) := by rw [State.final_digest u hm, State.finalDigest, ← ht]
      rw [h.exec_of_emit hfinal hocount (Acc.length_bytes _), hmem]
      rfl

/-! ## The block cipher on a unit, as a function of W (R295, R296) -/

/-- In the stream's mode, ECB or PCBC, `enc w v` is the encryption of v from working block w, with the working block it leaves. -/
def State.EncryptsBy (s : State) (enc : Block → List Byte → Block × List Byte) : Prop :=
  (s.mode = .ecb ∧ enc = fun w v => (w, ecbEnc s.bcKey s.bcRounds.toNat v)) ∨
    (s.mode = .pcbc ∧ enc = pcbcEnc s.bcKey s.bcRounds.toNat)

/-- In the stream's mode, ECB or PCBC, r is the decryption of u from W, with the working block it leaves. -/
def State.DecryptsTo (s : State) (u : List Byte) (r : Block × List Byte) : Prop :=
  (s.mode = .ecb ∧ r = (s.w, ecbDec s.bcKey s.bcRounds.toNat u)) ∨
    (s.mode = .pcbc ∧ r = pcbcDec s.bcKey s.bcRounds.toNat s.w u)

theorem State.cipherUnit_of_enc {s : State} {enc : Block → List Byte → Block × List Byte} (v : List Byte) (hdir : s.dir = .enc)
    (henc : s.EncryptsBy enc) : s.cipherUnit v = ({ s with w := (enc s.w v).1 }, (enc s.w v).2) := by
  rcases henc with ⟨hm, rfl⟩ | ⟨hm, rfl⟩
  · rw [State.cipherUnit_ecb v hm, if_pos hdir]
  · exact State.cipherUnit_pcbc v hm (if_pos hdir).symm

theorem State.cipherUnit_of_dec {s : State} {u : List Byte} {r : Block × List Byte} (hdir : s.dir = .dec)
    (hr : s.DecryptsTo u r) : s.cipherUnit u = ({ s with w := r.1 }, r.2) := by
  have hne : s.dir ≠ .enc := by rw [hdir]; decide
  rcases hr with ⟨hm, rfl⟩ | ⟨hm, rfl⟩
  · rw [State.cipherUnit_ecb u hm, if_neg hne]
  · exact State.cipherUnit_pcbc u hm (if_neg hne).symm

/-- The bytes of an aligned unit in ECB and PCBC are as many as the unit's. -/
theorem State.length_of_cipherUnit {s t : State} {u out : List Byte} (h : s.cipherUnit u = (t, out)) (hu : u.length % 8 = 0) :
    out.length = u.length := by
  rw [← congrArg (·.2.length) h, State.length_cipherUnit]
  omega

theorem length_addPadding_mod (u : List Byte) : (addPadding u).length % 8 = 0 := by
  rw [length_addPadding]
  omega

/-! ## CO_END of an encryption and of a decryption -/

theorem State.finalEnc_unpadded {s : State} {u : List Byte} (hpad : s.pad = false) : s.finalEnc u =
    if u.length % 8 = 0 then .ok ((s.cipherUnit u).1.emit (s.cipherUnit u).2) else .error .invalidArg := by
  by_cases hu : u.length % 8 = 0
  · simp [State.finalEnc, hpad, misaligned_eq_false.mpr hu, hu]
  · simp [State.finalEnc, hpad, misaligned_eq_true.mpr hu, hu]

theorem State.finalEnc_padded {s : State} {u : List Byte} (hpad : s.pad = true) (hu : u.length ≠ s.chunkSize.toNat) :
    s.finalEnc u = .ok ((s.cipherUnit (addPadding u)).1.emit (s.cipherUnit (addPadding u)).2) := by
  rw [State.finalEnc, if_pos hpad, if_neg hu]

/-- R299: a full unit is emitted first, and the padding-only unit is enciphered from the state t that leaves. -/
theorem State.finalEnc_full {s t : State} {u : List Byte} (hpad : s.pad = true) (hu : u.length = s.chunkSize.toNat)
    (ht : (s.cipherUnit u).1.emit (s.cipherUnit u).2 = t) : s.finalEnc u =
      .ok ((t.cipherUnit [8, 8, 8, 8, 8, 8, 8, 8]).1.emit (t.cipherUnit [8, 8, 8, 8, 8, 8, 8, 8]).2) := by
  subst ht
  rw [State.finalEnc, if_pos hpad, if_pos hu, addPadding_nil]

/-- Settles O47: `finalEnc` by padding, length and alignment, with one unit emitted to slot 0 or a second one to slot 1. -/
theorem coEndEncrypts : Obligations.CoEndEncrypts := by
  unfold Obligations.CoEndEncrypts
  intro s u enc hlast hfree hdir henc
  have h := State.streamEnds_of_last hlast hfree
  have hfinal := State.final_enc u (henc.imp And.left And.left) hdir
  have hcipher (v : List Byte) := State.cipherUnit_of_enc v hdir henc
  refine ⟨fun hpad hmis => ?misaligned, fun hpad hal => ?unpadded, fun hpad hlen => ?padded, fun hpad hlen hal => ?full⟩
  case misaligned => exact h.exec_of_error (hfinal.trans ((State.finalEnc_unpadded hpad).trans (if_neg hmis)))
  case unpadded =>
    refine h.exec_of_emit (t := { s with w := (enc s.w u).1 }) ?_ rfl (State.length_of_cipherUnit (hcipher u) hal)
    rw [hfinal, State.finalEnc_unpadded hpad, if_pos hal, hcipher]
  case padded =>
    refine h.exec_of_emit (t := { s with w := (enc s.w (addPadding u)).1 }) ?_ rfl
      (State.length_of_cipherUnit (hcipher _) (length_addPadding_mod u))
    rw [hfinal, State.finalEnc_padded hpad hlen, hcipher]
  case full =>
    generalize hw : (enc s.w u).1 = w
    generalize hout : (enc s.w u).2 = out
    have hu := hcipher u
    rw [hw, hout] at hu
    have hslot0 : (s.cipherUnit u).1.emit (s.cipherUnit u).2 = { s with
        w := w, mem := Memory.storeBytes s.mem 0x20000 out, outLen0 := BitVec.ofNat 17 u.length, ocount := 1 } := by
      rw [← State.length_of_cipherUnit hu hal, hu]
      exact State.emit_slot0 out hfree
    have hpadding := State.cipherUnit_of_enc [8, 8, 8, 8, 8, 8, 8, 8] (enc := enc) (s := { s with
      w := w, mem := Memory.storeBytes s.mem 0x20000 out, outLen0 := BitVec.ofNat 17 u.length, ocount := 1 }) hdir henc
    rw [h.exec_of_ok (hfinal.trans (State.finalEnc_full hpad hlen hslot0)), hpadding, State.emit_slot1 _ rfl,
      State.length_of_cipherUnit hpadding rfl]
    rfl

theorem State.finalDec_misaligned {s : State} {u : List Byte} (hu : u.length % 8 ≠ 0) : s.finalDec u = .error .invalidArg := by
  rw [State.finalDec, if_pos (misaligned_eq_true.mpr hu)]

theorem State.finalDec_aligned {s : State} {u : List Byte} (hu : u.length % 8 = 0) : s.finalDec u =
    if s.pad then (removePadding (s.cipherUnit u).2).map fun p => (s.cipherUnit u).1.emit p
    else .ok ((s.cipherUnit u).1.emit (s.cipherUnit u).2) := by
  rw [State.finalDec, misaligned_eq_false.mpr hu]
  cases removePadding (s.cipherUnit u).2 <;> rfl

/-- Settles O48: `finalDec` by alignment, then by padding, with one unit emitted to slot 0. -/
theorem coEndDecrypts : Obligations.CoEndDecrypts := by
  unfold Obligations.CoEndDecrypts
  intro s u r hlast hfree hdir hr
  have h := State.streamEnds_of_last hlast hfree
  have hfinal := State.final_dec u (hr.imp And.left And.left) hdir
  have hcipher := State.cipherUnit_of_dec hdir hr
  refine ⟨fun hmis => ?misaligned, fun hal hpad => ?unpadded, fun hal hpad hbad => ?badPadding, fun hal hpad p hp => ?padded⟩
  case misaligned => exact h.exec_of_error (hfinal.trans (State.finalDec_misaligned hmis))
  case unpadded =>
    refine h.exec_of_emit (t := { s with w := r.1 }) ?_ rfl (State.length_of_cipherUnit hcipher hal)
    rw [hfinal, State.finalDec_aligned hal, if_neg (Bool.eq_false_iff.mp hpad), hcipher]
  case badPadding =>
    refine h.exec_of_error ?_
    rw [hfinal, State.finalDec_aligned hal, if_pos hpad, hcipher, hbad]
    rfl
  case padded =>
    refine h.exec_of_emit (t := { s with w := r.1 }) ?_ rfl rfl
    rw [hfinal, State.finalDec_aligned hal, if_pos hpad, hcipher, hp]
    rfl

/-! ## An encrypted unit decrypted (R247, R301, R302) -/

/-- A slot that bytes were stored to reads them back. -/
theorem State.readBytes_of_storeBytes {s : State} {m : Memory} {a n : Nat} {bs : List Byte}
    (hm : s.mem = Memory.storeBytes m a bs) (hn : n = bs.length) : s.readBytes a n = bs := by
  subst hn
  apply List.ext_getElem (s.length_readBytes a _)
  intro k _ hk
  simp [State.readBytes, State.readByte, hm, Memory.lookup_storeBytes, hk, byteAt]

/-- An output length reads back as a number, since a unit fits its slot (R55). -/
theorem toNat_outLen {n : Nat} (h : n ≤ 65536) : (BitVec.ofNat 17 n).toNat = n := Nat.mod_eq_of_lt (by omega)

/-- In a block mode the held unit of a stream with legal sizes, shorter than CHUNK_SIZE, still fits a slot once padded. -/
theorem State.Inv.length_hold_and_addPadding {s : State} (hs : s.Inv) (hco : s.coState = .holding)
    (hmode : s.mode = .ecb ∨ s.mode = .pcbc) (hne : s.hold.length ≠ s.chunkSize.toNat) :
    s.hold.length ≤ 65536 ∧ (addPadding s.hold).length ≤ 65536 := by
  have hopen : s.coState ≠ .idle := by rw [hco]; decide
  have hle := hs.chunkSize_le hopen
  have hmod := hs.chunkSize_mod hopen (by rcases hmode with hm | hm <;> rw [hm] <;> rfl)
  obtain ⟨-, -, -, -, ⟨-, hheld⟩, -⟩ := hs
  have hhold := hheld hco
  rw [length_addPadding]
  omega

/-- In ECB and PCBC, decrypting the encryption of an aligned sequence from the same W gives it back and moves W the same way. -/
theorem State.exists_enc_and_inverse {s : State} {p : List Byte} (hmode : s.mode = .ecb ∨ s.mode = .pcbc)
    (hp : p.length % 8 = 0) : ∃ enc, s.EncryptsBy enc ∧ s.DecryptsTo (enc s.w p).2 ((enc s.w p).1, p) := by
  rcases hmode with hm | hm
  · exact ⟨_, .inl ⟨hm, rfl⟩, .inl ⟨hm, congrArg (Prod.mk s.w) (ecbDec_ecbEnc _ _ hp).symm⟩⟩
  · exact ⟨_, .inr ⟨hm, rfl⟩, .inr ⟨hm, (pcbcDec_pcbcEnc _ _ _ hp).symm⟩⟩

/-- Settles O49: slot 0 reads the encryption of the padded unit, and decryption, then unpadding, undo the two in turn. -/
theorem encryptedUnitDecrypts : Obligations.EncryptedUnitDecrypts := by
  unfold Obligations.EncryptedUnitDecrypts
  intro s t hs hco hmode hdir hpad hfree hne ht
  obtain ⟨hlen, hlenPad⟩ := hs.length_hold_and_addPadding hco hmode hne
  have hal := length_addPadding_mod s.hold
  obtain ⟨enc, henc, hdec⟩ := State.exists_enc_and_inverse hmode hal
  have hout := State.length_of_cipherUnit (State.cipherUnit_of_enc _ hdir henc) hal
  obtain ⟨-, -, hencrypt, -⟩ := coEndEncrypts s s.hold enc (.inl ⟨hco, rfl⟩) hfree hdir henc
  obtain rfl := Host.Outcome.next.inj ((hencrypt hpad hne).symm.trans ht)
  rw [State.readBytes_of_storeBytes rfl ((toNat_outLen hlenPad).trans hout.symm)]
  obtain ⟨-, -, -, hdecrypt⟩ := coEndDecrypts { s with dir := .dec, hold := (enc s.w (addPadding s.hold)).2 } _ _
    (.inl ⟨hco, rfl⟩) hfree rfl hdec
  exact ⟨_, hdecrypt (hout.symm ▸ hal) hpad s.hold (removePadding_addPadding _), rfl, rfl, toNat_outLen hlen,
    State.readBytes_of_storeBytes rfl (toNat_outLen hlen), rfl⟩

end Sys2Proof.Machine
end

section
/-! # Settling the frames (10_state.md sections 2 to 9, 45_coordinator.md R290, R293)

A raise changes the error fields alone, so what else a command changes is its effect, and for CO_UNIT and CO_END what `nonfinal`
and `final` leave. While a stream is open, the stream check lets no effect run but those of NOP, RESET, OUT_ACK, CO_UNIT and
CO_END. -/

namespace Sys2Proof.Machine

/-! ## Which state each command writes -/

/-- Settles O50: a raise writes the error fields, and each effect is a record update of the fields named for its command. What
CO_UNIT and CO_END move of an engine depends on the mode. -/
theorem commandsWriteOnlyTheirState : Obligations.CommandsWriteOnlyTheirState := by
  unfold Obligations.CommandsWriteOnlyTheirState
  intro i s t hi h
  rcases exec_cases h with ⟨e, -, rfl⟩ | ⟨-, heff⟩
  · simp
  · cases i
    case reset => exact absurd rfl hi
    case coUnit =>
      rcases State.acceptUnit_cases heff with ⟨-, rfl⟩ | ⟨t', -, hunit, rfl⟩
      · simp
      · rcases State.nonfinal_cases hunit with
          ⟨_, _, _, hm, -, rfl⟩ | ⟨_, _, _, hm, -, rfl⟩ | ⟨_, _, ⟨hm, rfl⟩ | hm, -, rfl⟩
        all_goals simp [hm]
    case coEnd =>
      obtain ⟨t', hunit, rfl⟩ := State.endStream_cases heff
      rcases State.final_cases hunit with
        ⟨_, _, _, _, hm, -, -, rfl⟩ | ⟨_, _, _, hm, -, rfl⟩ | ⟨_, _, ⟨hm, rfl⟩ | hm, -, rfl⟩ |
        ⟨_, _, _, _, ⟨hm, rfl, rfl⟩ | hm, -, -, rfl⟩
      all_goals simp [hm]
    all_goals
      cases heff
      simp

/-! ## Which bytes CO_UNIT and CO_END write (R96, R97, R293) -/

/-- Address a lies in the units that the output slots hold, by OCOUNT and the output lengths (R54, R55). -/
def State.InOutput (s : State) (a : Nat) : Prop :=
  (1 ≤ s.ocount.toNat ∧ 0x20000 ≤ a ∧ a < 0x20000 + s.outLen0.toNat) ∨
    (s.ocount = 2 ∧ 0x30000 ≤ a ∧ a < 0x30000 + s.outLen1.toNat)

/-- An emit writes bytes of the unit it emits, and no other. -/
theorem State.readByte_emit_of_not_inOutput {s : State} {u : List Byte} {a : Nat} (hfree : s.ocount = 0 ∨ s.ocount = 1)
    (hu : u.length ≤ 65536) (ha : ¬ (s.emit u).InOutput a) : (s.emit u).readByte a = s.readByte a := by
  have hout := toNat_outLen hu
  rw [State.readByte_emit, if_neg]
  rintro ⟨hlo, hhi⟩
  unfold State.slotBase at hlo hhi
  refine ha ?_
  rcases hfree with h | h
  · rw [State.emit_slot0 u h]
    rw [if_pos h] at hlo hhi
    exact .inl ⟨Nat.le_refl 1, hlo, hhi.trans_eq (congrArg _ hout.symm)⟩
  · rw [State.emit_slot1 u h]
    rw [if_neg (by rw [h]; decide)] at hlo hhi
    exact .inr ⟨rfl, hlo, hhi.trans_eq (congrArg _ hout.symm)⟩

/-- The second emit keeps the first unit in its slot. -/
theorem State.InOutput.emit {s : State} {a : Nat} (h : s.InOutput a) (u : List Byte) (hslot : s.ocount = 1) :
    (s.emit u).InOutput a := by
  rcases h with ⟨-, hin⟩ | ⟨htwo, -⟩
  · rw [State.emit_slot1 u hslot]
    exact .inl ⟨Nat.le_succ 1, hin⟩
  · exact absurd (hslot.symm.trans htwo) (by decide)

theorem State.readByte_nonfinal {s t : State} {u : List Byte} {a : Nat} (hfree : s.ocount = 0)
    (hu : u.length ≤ 65536) (h : s.nonfinal u = .ok t) (ha : ¬ t.InOutput a) : t.readByte a = s.readByte a := by
  rcases State.nonfinal_cases h with ⟨_, _, _, -, -, rfl⟩ | ⟨_, _, _, -, hout, rfl⟩ | ⟨_, _, -, hout, rfl⟩
  · rfl
  all_goals exact State.readByte_emit_of_not_inOutput (.inl hfree) (hout.trans_le hu) ha

theorem State.Inv.readByte_final {s t : State} (hs : s.Inv) {u : List Byte} {a : Nat} (hopen : s.coState ≠ .idle)
    (hfree : s.ocount = 0) (hu : u.length ≤ s.chunkSize.toNat) (h : s.final u = .ok t) (ha : ¬ t.InOutput a) :
    t.readByte a = s.readByte a := by
  have hcs := hs.chunkSize_le hopen
  rcases State.final_cases h with ⟨_, _, _, _, -, -, hout, rfl⟩ | ⟨_, _, _, -, hout, rfl⟩ | ⟨_, _, hmode, hout, rfl⟩ |
    ⟨w, w', out, out', -, hout, hout', rfl⟩
  · exact State.readByte_emit_of_not_inOutput (.inl hfree) (by omega) ha
  · exact State.readByte_emit_of_not_inOutput (.inl hfree) (by omega) ha
  · have hblock : Mode.isBlock s.mode = true := by rcases hmode with ⟨hm, -⟩ | hm <;> rw [hm] <;> rfl
    exact State.readByte_emit_of_not_inOutput (.inl hfree) ((hout hu (hs.chunkSize_mod hopen hblock)).trans hcs) ha
  · have hslot : (State.emit { s with w := w } out).ocount = 1 :=
      congrArg State.ocount (State.emit_slot0 (s := { s with w := w }) out hfree)
    have hsecond := State.readByte_emit_of_not_inOutput (s := { (State.emit { s with w := w } out) with w := w' })
      (.inr hslot) (hout'.trans_le (by decide)) ha
    have hfirst : ¬ (State.emit { s with w := w } out).InOutput a := fun hin =>
      ha (State.InOutput.emit (s := { (State.emit { s with w := w } out) with w := w' }) hin out' hslot)
    exact hsecond.trans (State.readByte_emit_of_not_inOutput (s := { s with w := w }) (.inl hfree) (by omega) hfirst)

theorem exec_readByte {i : Instr} {s t : State} (a : Nat) (hreset : i ≠ .reset) (hunit : i ≠ .coUnit) (hend : i ≠ .coEnd)
    (h : exec i s = .next t) : t.readByte a = s.readByte a := by
  rcases exec_cases h with ⟨e, -, rfl⟩ | ⟨-, heff⟩
  · rfl
  · cases i
    case reset => exact absurd rfl hreset
    case coUnit => exact absurd rfl hunit
    case coEnd => exact absurd rfl hend
    all_goals
      cases heff
      rfl

/-- Settles O51: both commands process a unit with the slots free, and what that emits is what the output lengths cover. -/
theorem commandsKeepOtherMemory : Obligations.CommandsKeepOtherMemory := by
  unfold Obligations.CommandsKeepOtherMemory
  intro i s t a hs hreset h
  refine ⟨fun hunit hend => exec_readByte a hreset hunit hend h, fun hco h0 h1 => ?_⟩
  have hout (hfree : s.ocount = 0) : ¬ t.InOutput a := by
    rintro (⟨hocount, hin⟩ | ⟨htwo, hin⟩)
    · exact h0 ⟨hfree, hocount, hin⟩
    · exact h1 ⟨hfree, htwo, hin⟩
  rcases exec_cases h with ⟨e, -, rfl⟩ | ⟨hpass, heff⟩
  · rfl
  rcases hco with rfl | rfl
  · simp only [checksOf, State.unitChecks, List.forall_mem_cons, bne_eq_false_iff_eq] at hpass
    obtain ⟨-, hfree, -⟩ := hpass
    rcases State.acceptUnit_cases heff with ⟨-, rfl⟩ | ⟨t', -, hunit, rfl⟩
    · rfl
    · obtain ⟨-, ⟨-, hheld, -⟩, -⟩ := hs
      exact State.readByte_nonfinal (t := t') hfree hheld hunit (hout hfree)
  · simp only [checksOf, List.forall_mem_cons, Bool.not_eq_false', bne_eq_false_iff_eq] at hpass
    obtain ⟨hopen, hfree, -⟩ := hpass
    obtain ⟨t', hunit, rfl⟩ := State.endStream_cases heff
    exact hs.readByte_final (t := t') (streamOpen_eq_true.mp hopen) hfree hs.length_lastUnit hunit (hout hfree)

/-! ## What an open stream freezes (R290) -/

/-- The engines, their configuration and the stream: what no step but the coordinator's touches while a stream is open (R290). -/
def State.frozen (s : State) :=
  (s.lfsr, s.scKeyLo, s.scKeyHi, s.scIv, s.scState, s.scCnt, s.bcKey, s.bcRounds, s.bcReady, s.cmIv, s.w, s.cmReady, s.dgH,
    s.dgCnt, s.dgRes, s.dgState, s.chunkSize, s.coState, s.mode, s.dir, s.pad, s.hold)

/-- R364 item 3, R290: with a stream open, a command but RESET, CO_UNIT and CO_END changes none of it. -/
theorem exec_open_frozen {i : Instr} {s t : State} (hopen : s.coState ≠ .idle) (hi : i.WellFormed) (hreset : i ≠ .reset)
    (hunit : i ≠ .coUnit) (hend : i ≠ .coEnd) (h : exec i s = .next t) : t.frozen = s.frozen := by
  by_cases hneeds : needsIdle i = true
  · cases (exec_of_firstError (firstError_open hi hneeds hopen)).symm.trans h
    rfl
  · cases i
    case nop | outAck =>
      cases h
      rfl
    case reset => exact absurd rfl hreset
    case coUnit => exact absurd rfl hunit
    case coEnd => exact absurd rfl hend
    all_goals exact absurd rfl hneeds

theorem issue_open_frozen {c : Word} {s t : State} (hopen : s.coState ≠ .idle) (hreset : c ≠ 0x00000001) (hunit : c ≠ 0x00000061)
    (hend : c ≠ 0x00000062) (h : issue c s = .next t) : t.frozen = s.frozen := by
  rcases issue_cases c s with ⟨-, -, hgate⟩ | ⟨-, -, hraise⟩ | ⟨-, i, hi, hrun⟩
  · cases hgate.symm.trans h
    rfl
  · cases hraise.symm.trans h
    rfl
  · obtain ⟨hwf, rfl⟩ := decodeThenEncode c i hi
    exact exec_open_frozen hopen hwf (by rintro rfl; exact hreset rfl) (by rintro rfl; exact hunit rfl)
      (by rintro rfl; exact hend rfl) (hrun.symm.trans h)

/-- R72 (2): LEN, DATA0 and DATA1 are the registers a write still reaches. -/
theorem writeCsr_open_frozen {s : State} (c : Csr) (v : Word) (hopen : s.coState ≠ .idle) :
    (s.writeCsr c v).frozen = s.frozen := by
  unfold State.writeCsr
  split_ifs with hro hlocked
  · rfl
  · rfl
  · have hunlocked : c.locked = false := Bool.eq_false_iff.mpr fun hl => hlocked ⟨hl, hopen⟩
    cases c
    case scR1 | scR2 | scR3 | scR4 | scKeyLo | scKeyHi | scIv | bcKey0 | bcKey1 | bcKey2 | bcKey3 | bcRounds | cmIv0 | cmIv1
        | chunkSize => cases hunlocked
    all_goals rfl

/-- Only a write at CMD's address issues a command. -/
theorem busWrite_cases_of_ne_cmd {a : BitVec 18} (wd : Width) (v : Word) (s : State) (ha : a ≠ Csr.cmd.addr) :
    (∃ c, busWrite wd a v s = .next (s.writeCsr c v)) ∨ (∃ bs, busWrite wd a v s = .next (s.writeBytes a.toNat bs)) ∨
      busWrite wd a v s = .next s := by
  unfold busWrite
  cases regionOf a
  case csr =>
    cases hc : Csr.ofOffset a.toNat with
    | none => exact .inr (.inr rfl)
    | some c =>
      refine .inl ⟨c, ?_⟩
      cases c
      case cmd => exact absurd (BitVec.eq_of_toNat_eq (offset_of_ofOffset hc).symm) ha
      all_goals rfl
  case ibuf => exact .inr (.inl ⟨_, rfl⟩)
  all_goals exact .inr (.inr rfl)

theorem busWrite_open_frozen {wd : Width} {a : BitVec 18} {v : Word} {s t : State} (hopen : s.coState ≠ .idle)
    (hcmd : a = Csr.cmd.addr → v ≠ 0x00000001 ∧ v ≠ 0x00000061 ∧ v ≠ 0x00000062) (hok : accessOk wd a = true)
    (h : busWrite wd a v s = .next t) : t.frozen = s.frozen := by
  by_cases ha : a = Csr.cmd.addr
  · obtain ⟨hreset, hunit, hend⟩ := hcmd ha
    subst ha
    have hwd : wd = .w32 := by revert hok; cases wd <;> decide
    subst hwd
    exact issue_open_frozen hopen hreset hunit hend ((busWrite_addr s .cmd v).symm.trans h)
  · rcases busWrite_cases_of_ne_cmd wd v s ha with ⟨c, hcsr⟩ | ⟨bs, hbytes⟩ | hignored
    · cases hcsr.symm.trans h
      exact writeCsr_open_frozen c v hopen
    · cases hbytes.symm.trans h
      rfl
    · cases hignored.symm.trans h
      rfl

/-- Settles O52: a read or an ignored access touches nothing, a CSR write is locked, and a command raises or is NOP or OUT_ACK. -/
theorem openStreamFreezesEngines : Obligations.OpenStreamFreezesEngines := by
  unfold Obligations.OpenStreamFreezesEngines
  intro s t hopen h hnoReset hnoResetWord hnoUnit hnoEnd
  have hfrozen : t.frozen = s.frozen := by
    rcases step_cases h with ⟨-, rfl⟩ | ⟨x, rest, hp, ⟨rfl, -⟩ | ⟨wd, a, -, -, rfl⟩ | ⟨wd, a, v, rfl, href, hwrite⟩⟩
    · rfl
    · exact absurd hp (hnoReset rest)
    · rfl
    · have hok := accessOk_of_accessRefusal_eq_none href
      refine busWrite_open_frozen (s := { s with pending := rest }) hopen ?_ hok hwrite
      rintro rfl
      have hwd : wd = .w32 := by revert hok; cases wd <;> decide
      subst hwd
      refine ⟨?_, ?_, ?_⟩
      · rintro rfl; exact hnoResetWord rest hp
      · rintro rfl; exact hnoUnit rest hp
      · rintro rfl; exact hnoEnd rest hp
  simpa [State.frozen] using hfrozen

end Sys2Proof.Machine
end
